-- ==== Sys2Proof/Word.lean ====
section
/-! DEFINITION. The byte and bit types the spec's layouts are written in, and the clamp of the manual's
Conventions ("the nearest legal value"). -/
namespace Sys2Proof

/-- One byte of a payload, a setup block or a record image. -/
abbrev Byte := BitVec 8

/-- A set of event flags, position `n` of R194 in bit `n`. -/
abbrev FlagSet := BitVec 20

/-- "Clamped" (00_scope, Conventions): an out-of-range value is taken as the nearest legal one. -/
def clampNat (lo hi n : Nat) : Nat := max lo (min hi n)

/-- The same clamp for signed values. -/
def clampInt (lo hi n : Int) : Int := max lo (min hi n)

/-- A counter that holds at the top of its range (R1). -/
def satAdd (top n d : Nat) : Nat := min top (n + d)

end Sys2Proof
end

