-- ==== Sys2Proof/Syntax.lean ====
section
/-! DEFINITION. The commands: one constructor of `Instr` for each row of spec/opcode_table.json, in the table's
order, with the operands the row's rule gives it. The table gives no row any bits or operands; each operand below
cites the rule it is read from. The time a filtered level has held stands at the filter's 16 ms where a term names none
(R31, R34; log 23). -/
namespace Sys2Proof

/-- The two temperature probes (R20). -/
inductive ProbeId where
  | beer | jacket
deriving DecidableEq, Repr

/-- The three shared supplies (R84). -/
inductive Pool where
  | heat | chill | gas
deriving DecidableEq, Repr

/-- What step 1 of the start sequence reads (R128, R31, R34): the straps, and the raw levels of the four inputs.
`handle` and `keg` are true while the switch reads closed; `chillRdy` and `overdraw` while the line is asserted. -/
structure Pins where
  id : BitVec 3
  pair : BitVec 2
  handle : Bool
  keg : Bool
  chillRdy : Bool
  overdraw : Bool
deriving DecidableEq, Repr

/-- One command of the block: a start, a request of the panel node, a frame or a line event, a sensor sample, a
debounced switch or line change, or a timer that has run out. A request's operand is the argument bytes of R201. -/
inductive Instr where
  /-- R127: the supply is applied. -/
  | powerOn (pins : Pins)
  /-- R127: RESET_N is released. -/
  | pinReset (pins : Pins)
  /-- R192: the pending restart begins. -/
  | restartBegin (pins : Pins)
  /-- R21: the reference check is over; each probe's raw code, or `none` where its conversion did not complete. -/
  | referenceCheckDone (beer jacket : Option (BitVec 5))
  /-- R131: 200 + 100 × ID ms into the window. -/
  | presencePlacement
  /-- R133: the window's end, at the fourth boundary. -/
  | rollCallWindowEnd
  /-- R4. -/
  | startBatch (args : List Byte)
  /-- R39. -/
  | editStep (args : List Byte)
  /-- R46. -/
  | advanceStep (args : List Byte)
  /-- R47. -/
  | runProgram (args : List Byte)
  /-- R47. -/
  | pauseProgram (args : List Byte)
  /-- R5. -/
  | endBatch (args : List Byte)
  /-- R141. -/
  | pour (args : List Byte)
  /-- R154. -/
  | cancelPour (args : List Byte)
  /-- R155. -/
  | lockTap (args : List Byte)
  /-- R155. -/
  | unlockTap (args : List Byte)
  /-- R156. -/
  | freezeTap (args : List Byte)
  /-- R170. -/
  | resume (args : List Byte)
  /-- R172. -/
  | releaseLockout (args : List Byte)
  /-- R182. -/
  | leakTest (args : List Byte)
  /-- R185. -/
  | abortTest (args : List Byte)
  /-- R9. -/
  | commit (args : List Byte)
  /-- R191. -/
  | writeSetup (args : List Byte)
  /-- R190. -/
  | query (args : List Byte)
  /-- R196. -/
  | clearEvents (args : List Byte)
  /-- R195. -/
  | setReportMask (args : List Byte)
  /-- R192. -/
  | restart (args : List Byte)
  /-- R188: a REQUEST frame of the panel node for this station, received without error; its payload. -/
  | requestPartReceived (payload : List Byte)
  /-- R88: a CLAIM frame received without error, its sender and payload. -/
  | claimNoticeReceived (sender : BitVec 3) (payload : List Byte)
  /-- R89: a PRESENCE frame received without error. -/
  | presenceNoticeReceived (sender : BitVec 3) (payload : List Byte)
  /-- R174: an EXCURSION frame received without error. -/
  | excursionNoticeReceived (sender : BitVec 3) (payload : List Byte)
  /-- R113: any other frame; its bits from the start bit on as the receiver saw them, `true` for recessive. -/
  | frameReceived (bits : List Bool)
  /-- R117: the line falls idle. -/
  | lineIdleOffer
  /-- R111: a recessive arbitration bit was read dominant. -/
  | arbitrationLost
  /-- R120: a bit error in the frame being sent. -/
  | sendBitError
  /-- R120: the frame being sent has driven its last end bit. -/
  | sendSuccess
  /-- R90, R123: a boundary of the notice interval clock. -/
  | noticeIntervalBoundary
  /-- R123: own ID × 40 ms after a boundary. -/
  | claimOffsetPlacement
  /-- R124: the 100 ms claim spacing has run out. -/
  | claimSpacingExpiry
  /-- R122: the probe time of a MUTE station. -/
  | probePlacement
  /-- R98: 4,000 ms of silence. -/
  | silenceTimerExpiry
  /-- R96: a pool's settle timer has run out. -/
  | settleTimerExpiry (pool : Pool)
  /-- R34, R101: the raw level has read asserted for `heldMs` without interruption. -/
  | overdrawAssert (heldMs : Nat := 16)
  /-- R34, R102: as `overdrawAssert`, deasserted. -/
  | overdrawDeassert (heldMs : Nat := 16)
  /-- R102: the back-off timer has run out. -/
  | backoffTimerExpiry
  /-- R34: the raw level has read asserted for `heldMs` without interruption. -/
  | chillRdyAssert (heldMs : Nat := 16)
  /-- R34, R54: as `chillRdyAssert`, deasserted. -/
  | chillRdyDeassert (heldMs : Nat := 16)
  /-- R55: the starvation timer has reached 20 minutes. -/
  | chillStarvationExpiry
  /-- R31, R144: the raw HANDLE has read closed for `heldMs` without interruption. -/
  | handlePress (heldMs : Nat := 16)
  /-- R31, R145: as `handlePress`, open. -/
  | handleRelease (heldMs : Nat := 16)
  /-- R31, R32: the raw KEG has read closed for `heldMs` without interruption. -/
  | kegInsertion (heldMs : Nat := 16)
  /-- R31, R32, R157: as `kegInsertion`, open. -/
  | kegRemoval (heldMs : Nat := 16)
  /-- R20: a probe's sample time; the uncalibrated temperature in tenths, or `none` for a conversion not completed. -/
  | probeSample (probe : ProbeId) (conversion : Option Int)
  /-- R24: a probe's 30 s hold timer has run out. -/
  | holdTimerExpiry (probe : ProbeId)
  /-- R162: the over-temperature timer has reached 10 minutes. -/
  | overtempTimerExpiry
  /-- R162: the under-temperature timer has reached 60 s. -/
  | undertempTimerExpiry
  /-- R27: a pressure conversion in kPa, or `none` where it did not complete. -/
  | pressureConversion (reading : Option Int)
  /-- R28: a falling edge on FLOW; the pulse's width in µs, and whether its rising edge came before the start. -/
  | flowPulse (widthUs : Nat) (roseBeforeStart : Bool)
  /-- R30: the end of a 100 ms rate bin. -/
  | rateBinEnd
  /-- R150: the foam time has reached 2,000 ms. -/
  | foamTimeExpiry
  /-- R48: a 10 s control period begins. -/
  | controlPeriodStart
  /-- R53: the glycol open time of the cycle has passed. -/
  | glycolOpenTimeEnd
  /-- R53: the heater on time of the cycle has passed. -/
  | heaterOnTimeEnd
  /-- R44: a CRASH step's in-band time has reached 3,600 s. -/
  | crashInBandExpiry
  /-- R42: the step seconds count passes 59. -/
  | stepMinuteRise
  /-- R7: the batch seconds count passes 59. -/
  | batchMinuteRise
  /-- R60: a 1 s pressure period begins. -/
  | pressurePeriod
  /-- R77: the 3,600th period ends an hour. -/
  | hourEnd
  /-- R80: the gas-open timer has reached 30 s. -/
  | gasOpenTimerExpiry
  /-- R146: 20 s of PRIMING. -/
  | primingExpiry
  /-- R147: 10 s of PAUSED. -/
  | pauseExpiry
  /-- R149: the pour's time limit has run out. -/
  | pourTimeLimitExpiry
  /-- R152: the end of the 1 s drain window. -/
  | drainWindowEnd
  /-- R169: five minutes of clearance. -/
  | clearanceTimerExpiry
  /-- R184: the requested minutes of a leak test have passed. -/
  | leakTestTimerExpiry
  /-- R12: the 15-minute commit timer has run out. -/
  | commitTimerExpiry
  /-- R10: the commit in flight completes. -/
  | commitComplete
  /-- R129: the setup write in flight completes. -/
  | setupWriteComplete
  /-- R16: the supply is lost. -/
  | powerLoss
deriving DecidableEq, Repr

end Sys2Proof
end

