-- ==== Sys2Proof/Decode.lean ====
section
/-! DEFINITION. `decodeTableWord` over the rows of spec/opcode_table.json that give bits: none does (98_reader.md counts
0 rows with fixed bits), so no word spells a command. -/
namespace Sys2Proof

/-- The command that a word spells by the table's bits: no row of the table gives any. -/
def decodeTableWord (_nbits _w : Nat) : Option Instr := none

end Sys2Proof
end

