-- ==== Sys2Proof/Machine/Types.lean ====
section
/-! DEFINITION. The named values and the records of the manual: states, modes, kinds, codes, and the entries of its lists,
rings and reports. Widths and ranges are kept by the operations that write a field, as the manual's rules give them. -/
namespace Sys2Proof.Machine
open Sys2Proof

/-- R128. -/
inductive Role where
  | single | lead | follower
deriving DecidableEq, Repr

/-- The class of a demand, in rising urgency (R84). -/
inductive Cls where
  | idle | hold | pull | recover | pour
deriving DecidableEq, Repr

/-- R161, R164. -/
inductive StationState where
  | normal | safeHold | lockout
deriving DecidableEq, Repr

/-- The nine fault kinds in the order of R161. -/
inductive FaultKind where
  | overtemp | undertemp | overpressure | probeLost | kegLost | gasSupply | leak | linkMute | idConflict
deriving DecidableEq, Repr

/-- R3; `none` is NONE. -/
inductive Phase where
  | none | ferment | condition | carbonate | serve
deriving DecidableEq, Repr

/-- R2, R37. -/
inductive StepKind where
  | hold | ramp | crash
deriving DecidableEq, Repr

/-- A step's pressure mode (R2). -/
inductive PMode where
  | free | spund | carb
deriving DecidableEq, Repr

/-- R8. -/
inductive Persist where
  | off | initial | clean | dirty
deriving DecidableEq, Repr

/-- R24. -/
inductive ProbeState where
  | ok | holding | failed
deriving DecidableEq, Repr

/-- R22. -/
inductive CalMode where
  | auto | fixed | less | more
deriving DecidableEq, Repr

/-- R140. -/
inductive OrderKind where
  | glass | sample
deriving DecidableEq, Repr

/-- R140. -/
inductive OrderStart where
  | immediate | onHandle
deriving DecidableEq, Repr

/-- The stages of a pour (R140). -/
inductive Stage where
  | priming | active | paused
deriving DecidableEq, Repr

/-- R160, in its order. -/
inductive PourOutcome where
  | done | cancelled | stoppedByHandle | timeout | foam | lowPressure | kegLost | fault | locked | restarted
deriving DecidableEq, Repr

/-- R189, in the order of its table. -/
inductive ReplyCode where
  | ok | badLength | role | lockout | badState | noKeg | locked | frozen | queueFull | tagInUse | noSuchTag
  | badProfile | empty | busyTest
deriving DecidableEq, Repr

/-- R190. -/
inductive QueryItem where
  | status | record | profile | faultLog | testLog | health | peerView | pourQueue | recentPours
deriving DecidableEq, Repr

/-- R87, R90. -/
inductive PeerState where
  | present | silent | absent
deriving DecidableEq, Repr

/-- The pair thermal state (R59). -/
inductive PairState where
  | single | leadPaired | leadUnpaired | following | orphan
deriving DecidableEq, Repr

/-- R177. -/
inductive AttrState where
  | ok | warn | tripped
deriving DecidableEq, Repr

/-- R186. -/
inductive TestOutcome where
  | pass | fail | interrupted | aborted
deriving DecidableEq, Repr

/-- Where the start sequence stands: without supply; in steps 1 and 2 (steps 3 to 5 fall in one event); in the
roll-call window; past it (R127, R131, R133). -/
inductive StartPhase where
  | off | checking | window | running
deriving DecidableEq, Repr

/-- The image work of a pending restart (R17): waiting for the commit that was in flight, waiting for the final
commit, or done. -/
inductive ImageWork where
  | waitFirst | final | done
deriving DecidableEq, Repr

/-- What is on the line (R116, R117). -/
inductive TxKind where
  | excursion | claim | presence | reply | pourReport | event
deriving DecidableEq, Repr

/-- The twenty event flags in mask order (R194). -/
inductive Flag where
  | kegChanged | stepAdvanced | phaseChanged | programEnd | excursion | lockout | healthWarn | healthTrip | testDone
  | chillStarved | carbLimited | budgetReduced | pairMissing | pairMismatch | pairLost | pairStrap | kegEmpty
  | kegRemoved | recordLost | setupDefaulted
deriving DecidableEq, Repr

/-- One value for each pool, HEAT, CHILL, GAS. -/
structure PerPool (α : Type) where
  heat : α
  chill : α
  gas : α
deriving DecidableEq, Repr

/-- A demand and its class (R84). -/
structure Claim where
  demand : Nat := 0
  cls : Cls := .idle
deriving DecidableEq, Repr

/-- One step of a profile (R2). `tag` is FERMENT to SERVE. -/
structure Step where
  kind : StepKind := .hold
  tag : Phase := .ferment
  target : Int := 0
  duration : Option Nat := none
  threshold : Option Nat := none
  mode : PMode := .free
  spund : Option Nat := none
deriving DecidableEq, Repr

/-- The batch fields of the record while it holds a batch (R1); `run` is RUN. -/
structure Batch where
  number : Nat
  phase : Phase
  fill : Nat
  remaining : Nat
  total : Nat
  pours : Nat
  kegEmpty : Bool
  target : Nat
  est : Option Nat
  profile : List Step
  stepIdx : Nat
  stepMin : Nat
  rampStart : Int
  run : Bool
  programEnd : Bool
  batchMin : Nat
deriving DecidableEq, Repr

/-- The keg record: the batch, if it holds one, and the tap lock flag L (R1). -/
structure Rec where
  batch : Option Batch := none
  tapLock : Bool := false
deriving DecidableEq, Repr

/-- A commit in flight: its snapshot, and whether a batch started after it was taken (R10). -/
structure Commit where
  snap : Rec
  startedSince : Bool := false
deriving DecidableEq, Repr

/-- The applied setup (R129). -/
structure Setup where
  budget : PerPool Nat := ⟨30, 16, 2⟩
  db : Nat := 3
  hmax : Nat := 0
  pr : Nat := 240
  band : Nat := 5
  pa : Nat := 101
  fp : Nat := 30
  k : Nat := 4500
  nominal : Nat := 40
  beerMode : CalMode := .auto
  beerTrim : Nat := 16
  jacketMode : CalMode := .auto
  jacketTrim : Nat := 16
deriving DecidableEq, Repr

/-- One probe (R21 to R24): `hist` holds no or four samples, oldest first; `holdMs` is the time the hold timer has run. Code
and mark have these values until the reference check is over (log 12). -/
structure Probe where
  raw : Nat := 16
  refFailed : Bool := false
  code : Nat := 16
  hist : List Int := []
  state : ProbeState := .holding
  holdMs : Option Nat := none
deriving DecidableEq, Repr

/-- An entry of the peer view (R87). -/
structure Peer where
  id : Nat
  role : Role
  seq : Option Nat := none
  temp : Option Int := none
  probeOk : Bool := false
  state : PeerState := .present
  age : Nat := 0
  claims : PerPool Claim := ⟨{}, {}, {}⟩
deriving DecidableEq, Repr

/-- What the pool unit keeps for one pool (R84). `posted` is what the blocks post, `own` the own demand and class. -/
structure PoolItem where
  posted : Claim := {}
  own : Claim := {}
  lastSent : Option Claim := none
  grant : Nat := 0
  inUse : Nat := 0
  level : Option Nat := none
  settleMs : Nat := 0
  budget : Nat
deriving DecidableEq, Repr

/-- A participant of an allocation (R92). -/
structure Part where
  id : Nat
  claim : Claim
deriving DecidableEq, Repr

/-- A record of the activity log (R77). -/
structure ActRec where
  hour : Nat
  mode : PMode
  activity : Option Nat
deriving DecidableEq, Repr

/-- An order of the dispense queue (R140); its state and delivered volume are read from the active pour. -/
structure Order where
  tag : Nat
  kind : OrderKind
  volume : Nat
  limit : Option Nat
  start : OrderStart
deriving DecidableEq, Repr

/-- The active pour (R143). `tag` 0 is a manual pour; `ms` is the time since its start. -/
structure ActivePour where
  tag : Nat
  kind : OrderKind
  requested : Nat
  closeLevel : Option Nat
  limitS : Nat
  startCount : BitVec 32
  stage : Stage
  stageMs : Nat := 0
  foamMs : Option Nat := none
  delivered : Nat := 0
  ms : Nat := 0
  everActive : Bool
deriving DecidableEq, Repr

/-- A pour between its close and its completion (R151). -/
structure DrainPour where
  tag : Nat
  kind : OrderKind
  requested : Nat
  startCount : BitVec 32
  outcome : PourOutcome
  duration : Nat
  atClose : Nat
  delivered : Nat
  everActive : Bool
  leftMs : Nat := 1000
deriving DecidableEq, Repr

/-- R160. -/
structure PourReport where
  tag : Nat
  kind : OrderKind
  requested : Nat
  delivered : Nat
  duration : Nat
  outcome : PourOutcome
deriving DecidableEq, Repr

/-- An entry of the fault log (R175); `lockout` is its disposition. -/
structure FaultEntry where
  kind : FaultKind
  batch : Nat
  minute : Nat
  phase : Phase
  stepIdx : Nat
  tAvg : Option Int
  p : Nat
  lockout : Bool
  clearedAt : Option Nat := none
deriving DecidableEq, Repr

/-- The saved context (R165): RUN or PAUSED, SERVING or HELD. -/
structure SavedContext where
  run : Bool := false
  serving : Bool := false
deriving DecidableEq, Repr

/-- A line of the peer excursion table (R174). -/
structure PeerLine where
  state : StationState := .normal
  kind : Option FaultKind := none
deriving DecidableEq, Repr

/-- A health attribute (R177). -/
structure Attr where
  cur : Option Nat := none
  worst : Option Nat := none
  state : AttrState := .ok
deriving DecidableEq, Repr

/-- An open CHILL_RESPONSE measurement (R179); `start` absent is a void one. -/
structure ChillMeas where
  start : Option Int
  openMs : Nat := 0
deriving DecidableEq, Repr

/-- A running leak test (R182). -/
structure LeakTest where
  minutes : Nat
  startP : Nat
  startAbs : Nat
  startT : Int
  startMin : Nat
  ms : Nat := 0
deriving DecidableEq, Repr

/-- A descriptor of the test log (R186). -/
structure TestDesc where
  startMin : Nat
  minutes : Nat
  startP : Nat
  endP : Nat
  outcome : TestOutcome
  decay : Option Int
deriving DecidableEq, Repr

/-- A request in assembly (R188). -/
structure Assembly where
  code : Nat
  count : Nat
  next : Nat
  args : List Byte
deriving DecidableEq, Repr

/-- A frame of the bay link without its start, CRC and end fields (R109). -/
structure Frame where
  priority : BitVec 3
  sender : BitVec 4
  dest : BitVec 4
  kind : BitVec 4
  payload : List Byte
deriving DecidableEq, Repr

/-- An excursion notice (R173). -/
structure ExcNotice where
  role : Role
  state : StationState
  kind : Option FaultKind
deriving DecidableEq, Repr

/-- A claim notice (R88, R123). -/
structure ClaimNotice where
  role : Role
  seq : Nat
  claims : PerPool Claim
  temp : Option Int
  probeOk : Bool
  setpoint : Option Int
  driveChill : Nat
  driveHeat : Nat
deriving DecidableEq, Repr

/-- A presence notice (R131). -/
structure PresNotice where
  role : Role
  budgets : PerPool Nat
deriving DecidableEq, Repr

/-- An event report: the status head at its placement, and the cause set it carries (R197). -/
structure EventReport where
  head : List Byte
  cause : FlagSet
deriving DecidableEq, Repr

/-- A held frame and its retry count (R116, R120). -/
structure Held (α : Type) where
  body : α
  retries : Nat := 0
deriving DecidableEq, Repr

/-- A slot: the frame it holds, and the frame held aside while that one is on the line (R116). -/
structure Slot (α : Type) where
  held : Option (Held α) := none
  aside : Option (Held α) := none
deriving DecidableEq, Repr

/-- One position of the dispense queue as a query shows it (R140, R160). -/
structure QueueLine where
  tag : Nat
  kind : OrderKind
  volume : Nat
  limit : Option Nat
  start : OrderStart
  stage : Option Stage
  delivered : Nat
deriving DecidableEq, Repr

/-- The batch fields that a query of RECORD shows: every field of R1 but the profile (R19, R190). -/
structure BatchShown where
  number : Nat
  phase : Phase
  fill : Nat
  remaining : Nat
  total : Nat
  pours : Nat
  kegEmpty : Bool
  target : Nat
  est : Option Nat
  stepIdx : Nat
  stepMin : Nat
  rampStart : Int
  run : Bool
  programEnd : Bool
  batchMin : Nat
deriving DecidableEq, Repr

/-- The calibration of a probe that a query of HEALTH shows (R35). -/
structure ProbeShown where
  raw : Nat
  refFailed : Bool
  mode : CalMode
  trim : Nat
  code : Nat
deriving DecidableEq, Repr

/-- A query's answer, as the station stood when the query was taken (R190). STATUS is laid out by R202; of the others the
manual gives the contents only. -/
inductive Answer where
  | status (bytes : List Byte)
  | record (r : Option BatchShown) (tapLock : Bool) (persist : Persist) (log : List ActRec)
  | recordAbsent
  | profile (steps : List Step)
  | faultLog (held : Nat) (entries : List FaultEntry)
  | testLog (newest : Nat) (positions : List (Option TestDesc))
  | health (attrs : List (Attr × Nat)) (beer jacket : ProbeShown) (overdraws : Nat)
  | peerView (nKnown : Nat) (entries : List Peer)
  | pourQueue (lines : List QueueLine)
  | recentPours (reports : List PourReport)
deriving DecidableEq, Repr

/-- An entry of the reply list: the request answered, its reply code and answer, and the part sent next (R118, R125). -/
structure ReplyEntry where
  code : Nat
  rc : ReplyCode := .ok
  answer : Option Answer := none
  next : Nat := 0
  retries : Nat := 0
deriving DecidableEq, Repr

end Sys2Proof.Machine
end

