-- ==== Sys2Proof/Machine/Codes.lean ====
section
/-! DEFINITION. The codes of the named values (R200), byte packing most significant byte first, and the positions of the
event flags (R194, R200). -/
namespace Sys2Proof.Machine
open Sys2Proof

/-- R200. -/
def Role.code : Role → Nat
  | .single => 0 | .lead => 1 | .follower => 2

/-- R200: role code 3 names no role. -/
def Role.ofCode : Nat → Option Role
  | 0 => some .single | 1 => some .lead | 2 => some .follower | _ => none

/-- R200. -/
def Cls.code : Cls → Nat
  | .idle => 0 | .hold => 1 | .pull => 2 | .recover => 3 | .pour => 4

/-- R200: a code that names no class is clamped to 4. -/
def Cls.ofCode : Nat → Cls
  | 0 => .idle | 1 => .hold | 2 => .pull | 3 => .recover | _ => .pour

/-- R200. -/
def StationState.code : StationState → Nat
  | .normal => 0 | .safeHold => 1 | .lockout => 2

/-- R200: station state code 3 names none. -/
def StationState.ofCode : Nat → Option StationState
  | 0 => some .normal | 1 => some .safeHold | 2 => some .lockout | _ => none

/-- R200: 1 to 9 in the order of R161. -/
def FaultKind.code : FaultKind → Nat
  | .overtemp => 1 | .undertemp => 2 | .overpressure => 3 | .probeLost => 4 | .kegLost => 5 | .gasSupply => 6
  | .leak => 7 | .linkMute => 8 | .idConflict => 9

/-- R200: 0 is no kind. -/
def kindCode : Option FaultKind → Nat
  | none => 0 | some k => k.code

/-- R200: 0 is none; a code above 9 names nothing. -/
def kindOfCode : Nat → Option (Option FaultKind)
  | 0 => some none
  | 1 => some (some .overtemp) | 2 => some (some .undertemp) | 3 => some (some .overpressure)
  | 4 => some (some .probeLost) | 5 => some (some .kegLost) | 6 => some (some .gasSupply)
  | 7 => some (some .leak) | 8 => some (some .linkMute) | 9 => some (some .idConflict)
  | _ => none

/-- R200, the record's phase. -/
def Phase.code : Phase → Nat
  | .none => 0 | .ferment => 1 | .condition => 2 | .carbonate => 3 | .serve => 4

/-- R200, the record's phase; codes above 4 name none and are read as NONE. -/
def Phase.ofCode : Nat → Phase
  | 1 => .ferment | 2 => .condition | 3 => .carbonate | 4 => .serve | _ => .none

/-- R200, a step's phase tag: 0 FERMENT to 3 SERVE. -/
def Phase.tagCode : Phase → Nat
  | .none => 0 | .ferment => 0 | .condition => 1 | .carbonate => 2 | .serve => 3

/-- R200, a step's phase tag, two bits. -/
def Phase.ofTagCode : Nat → Phase
  | 0 => .ferment | 1 => .condition | 2 => .carbonate | _ => .serve

/-- R200. -/
def StepKind.code : StepKind → Nat
  | .hold => 0 | .ramp => 1 | .crash => 2

/-- R200: kind code 3 names none. -/
def StepKind.ofCode : Nat → Option StepKind
  | 0 => some .hold | 1 => some .ramp | 2 => some .crash | _ => none

/-- R200. -/
def PMode.code : PMode → Nat
  | .free => 0 | .spund => 1 | .carb => 2

/-- R200: pressure mode code 3 names none. -/
def PMode.ofCode : Nat → Option PMode
  | 0 => some .free | 1 => some .spund | 2 => some .carb | _ => none

/-- R200. -/
def Persist.code : Persist → Nat
  | .off => 0 | .initial => 1 | .clean => 2 | .dirty => 3

/-- R200. -/
def ProbeState.code : ProbeState → Nat
  | .ok => 0 | .holding => 1 | .failed => 2

/-- R202. -/
def CalMode.code : CalMode → Nat
  | .auto => 0 | .fixed => 1 | .less => 2 | .more => 3

/-- R202, R22: a value that names no mode is taken as AUTO. -/
def CalMode.ofCode : Nat → CalMode
  | 1 => .fixed | 2 => .less | 3 => .more | _ => .auto

/-- R200. -/
def OrderKind.code : OrderKind → Nat
  | .glass => 0 | .sample => 1

/-- R200: 0 DONE to 9 RESTARTED in the order of R160. -/
def PourOutcome.code : PourOutcome → Nat
  | .done => 0 | .cancelled => 1 | .stoppedByHandle => 2 | .timeout => 3 | .foam => 4 | .lowPressure => 5
  | .kegLost => 6 | .fault => 7 | .locked => 8 | .restarted => 9

/-- R200: 0 OK to 13 BUSY_TEST in the order of R189. -/
def ReplyCode.code : ReplyCode → Nat
  | .ok => 0 | .badLength => 1 | .role => 2 | .lockout => 3 | .badState => 4 | .noKeg => 5 | .locked => 6
  | .frozen => 7 | .queueFull => 8 | .tagInUse => 9 | .noSuchTag => 10 | .badProfile => 11 | .empty => 12
  | .busyTest => 13

/-- R200: 0 STATUS to 8 RECENT_POURS; a higher value names no item. -/
def QueryItem.ofCode : Nat → Option QueryItem
  | 0 => some .status | 1 => some .record | 2 => some .profile | 3 => some .faultLog | 4 => some .testLog
  | 5 => some .health | 6 => some .peerView | 7 => some .pourQueue | 8 => some .recentPours | _ => none

/-- The status codes of the states the manual gives no code for are their places in their rule's list: R59's pair thermal
states, R177's attribute states, a pour's stage in the order of R140 (DEDUCED, log 11). -/
def PairState.code : PairState → Nat
  | .single => 0 | .leadPaired => 1 | .leadUnpaired => 2 | .following => 3 | .orphan => 4

/-- R177's order (log 11). -/
def AttrState.code : AttrState → Nat
  | .ok => 0 | .warn => 1 | .tripped => 2

/-- R140's order, QUEUED being 0 (log 11). -/
def Stage.code : Stage → Nat
  | .priming => 1 | .active => 2 | .paused => 3

/-- The position of a flag in every set of flags (R194). -/
def Flag.pos : Flag → Nat
  | .kegChanged => 0 | .stepAdvanced => 1 | .phaseChanged => 2 | .programEnd => 3 | .excursion => 4 | .lockout => 5
  | .healthWarn => 6 | .healthTrip => 7 | .testDone => 8 | .chillStarved => 9 | .carbLimited => 10
  | .budgetReduced => 11 | .pairMissing => 12 | .pairMismatch => 13 | .pairLost => 14 | .pairStrap => 15
  | .kegEmpty => 16 | .kegRemoved => 17 | .recordLost => 18 | .setupDefaulted => 19

/-- The set holding one flag. -/
def Flag.bit (f : Flag) : FlagSet := 1#20 <<< f.pos

/-- A byte of a value below 256. -/
def byte (n : Nat) : Byte := BitVec.ofNat 8 n

/-- Two bytes, most significant first (R200). -/
def be16 (n : Nat) : List Byte := [byte (n / 256), byte n]

/-- Three bytes, most significant first. -/
def be24 (n : Nat) : List Byte := [byte (n / 65536), byte (n / 256), byte n]

/-- Four bytes, most significant first. -/
def be32 (n : Nat) : List Byte := [byte (n / 16777216), byte (n / 65536), byte (n / 256), byte n]

/-- A signed value in 16-bit two's complement (R200). -/
def be16i (t : Int) : List Byte := be16 (BitVec.ofInt 16 t).toNat

/-- Byte `i` of a payload as a number; 0 beyond its end. -/
def at8 (l : List Byte) (i : Nat) : Nat := (l.getD i 0).toNat

/-- Bytes `i`, `i + 1`, most significant first. -/
def at16 (l : List Byte) (i : Nat) : Nat := at8 l i * 256 + at8 l (i + 1)

/-- Bytes `i` to `i + 2`. -/
def at24 (l : List Byte) (i : Nat) : Nat := at16 l i * 256 + at8 l (i + 2)

/-- Bytes `i` to `i + 3`. -/
def at32 (l : List Byte) (i : Nat) : Nat := at24 l i * 256 + at8 l (i + 3)

/-- Bytes `i`, `i + 1` as a signed value (R200). -/
def at16i (l : List Byte) (i : Nat) : Int := (BitVec.ofNat 16 (at16 l i)).toInt

/-- Bit `b` of byte `i`, 7 the most significant (R200). -/
def atBit (l : List Byte) (i b : Nat) : Bool := (l.getD i 0).getLsbD b

/-- A mark as a number. -/
def b2n (b : Bool) : Nat := if b then 1 else 0

/-- A set of event flags as 3 bytes, position 0 in bit 0 of the first (R200). -/
def FlagSet.bytes (f : FlagSet) : List Byte := [byte f.toNat, byte (f.toNat / 256), byte (f.toNat / 65536)]

/-- The set of flags in bytes `i` to `i + 2`; bits beyond position 19 are ignored (R200). -/
def flagsAt (l : List Byte) (i : Nat) : FlagSet :=
  BitVec.ofNat 20 (at8 l i + 256 * at8 l (i + 1) + 65536 * at8 l (i + 2))

/-- Up to eight marks as a byte, the first in bit 7. -/
def octet (l : List Bool) : Byte :=
  let m (i : Nat) : Nat := b2n (l.getD i false)
  byte (128 * m 0 + 64 * m 1 + 32 * m 2 + 16 * m 3 + 8 * m 4 + 4 * m 5 + 2 * m 6 + m 7)

/-- Marks packed eight to a byte from bit 7 downward, the unused bits of the last byte 0 (R202). -/
def packMarks : List Bool → List Byte
  | [] => []
  | a :: b :: c :: d :: e :: f :: g :: h :: rest => octet [a, b, c, d, e, f, g, h] :: packMarks rest
  | l => [octet l]

end Sys2Proof.Machine
end

