-- ==== Sys2Proof/Config.lean ====
section
/-! DEFINITION. The fixed times and limits of the manual, each with its rule, and the one free value. -/
namespace Sys2Proof.Config
open Sys2Proof

/-- R31, R34: 16 ms. -/
def filterMs : Nat := 16
/-- R12: 15 minutes. -/
def commitTimerMs : Nat := 900000
/-- R24: 30 s. -/
def probeHoldMs : Nat := 30000
/-- R53: a valve cycle of 10 s. -/
def cycleMs : Nat := 10000
/-- R53: the glycol open time of one eighth. -/
def eighthMs : Nat := 1250
/-- R55: 20 minutes. -/
def starvationMs : Nat := 1200000
/-- R44: 60 continuous minutes in band. -/
def crashInBandS : Nat := 3600
/-- R80: 30 s. -/
def gasOpenS : Nat := 30
/-- R76: periods in an hour. -/
def hourPeriods : Nat := 3600
/-- R94: two notice intervals. -/
def settleMs : Nat := 1000
/-- R98: eight notice intervals. -/
def silenceMs : Nat := 4000
/-- R102: one notice interval. -/
def intervalMs : Nat := 500
/-- R124. -/
def spacingMs : Nat := 100
/-- R131. -/
def windowMs : Nat := 2000
/-- R121. -/
def muteDrops : Nat := 16
/-- R116, R118, R119: entries of the reply list and of the pending pour reports. -/
def listEntries : Nat := 4
/-- R140. -/
def queueEntries : Nat := 4
/-- R146: 20 s, R147: 10 s, R150: 2,000 ms, R151: 1 s. -/
def primingMs : Nat := 20000
def pauseMs : Nat := 10000
def foamMs : Nat := 2000
def drainMs : Nat := 1000
/-- R162: 10 minutes and 60 s. -/
def overtempS : Nat := 600
def undertempS : Nat := 60
/-- R169: 5 minutes. -/
def clearanceMs : Nat := 300000
/-- R177: the thresholds of LEAK, CHILL_RESPONSE, GAS_PER_LITRE and LINK_QUALITY. -/
def leakThreshold : Nat := 6
def chillThreshold : Nat := 2
def gasThreshold : Nat := 20
def linkThreshold : Nat := 50
/-- The tops of the counters. -/
def top16 : Nat := 65535
def top24 : Nat := 16777215
def top32 : Nat := 4294967295

/-- FREE VALUE (log 10): the bytes of a query's answer other than STATUS. R190 gives what each answer holds; the manual lays
out none of them. Nothing constrains the bytes but R125's bound of 16 parts, which `answerBytes` keeps. -/
opaque freeAnswerBytes : Machine.Answer → List Byte

end Sys2Proof.Config
end

