-- ==== Sys2Proof/Machine/State.lean ====
section
/-! DEFINITION. The state of the block, unit by unit as the manual gives it, with the queue of waiting commands; the
reasons a step could stop; and the state after reset. Every default value below is the value the unit's own rule gives
"after each kind of start" (R18, R36, R59, R83, R107, R126, R139, R159, R176, R187, R199). -/
namespace Sys2Proof.Machine
open Sys2Proof

/-- Nonvolatile memory: the 148-byte record image and the 19-byte setup block (R202), erased as new (log 5), and the
contents of a setup write in flight (R129). -/
structure Nv where
  image : List Byte := List.replicate 148 0xFF
  setupBlock : List Byte := List.replicate 19 0xFF
  setupWrite : Option (List Byte) := none
deriving DecidableEq, Repr

/-- The start sequence and the roll call (R127 to R139). -/
structure Start where
  phase : StartPhase := .checking
  windowMs : Nat := 0
  boundaries : Nat := 0
  id : Nat := 0
  pair : Nat := 0
  role : Role := .single
  setup : Setup := {}
  lowest : PerPool Nat := ⟨255, 64, 8⟩
  presSent : Bool := false
  presAgain : Bool := false
deriving DecidableEq, Repr

/-- The sensing unit (R36). -/
structure Sense where
  beer : Probe := {}
  jacket : Probe := {}
  sampling : Bool := false
  p : Nat := 0
  pulses : BitVec 32 := 0
  bins : List Nat := List.replicate 10 0
  bin : Nat := 0
  rate : Nat := 0
  handle : Bool := false
  keg : Bool := false
  ackKeg : Bool := false
  chillRdy : Bool := false
  overdraw : Bool := false
deriving DecidableEq, Repr

/-- The keg record unit (R18). `batch` and `tapLock` are the record (R1); `timerMs` is the time left of the commit timer. -/
structure Keg where
  batch : Option Batch := none
  tapLock : Bool := false
  loaded : Bool := false
  persist : Persist := .off
  commit : Option Commit := none
  pendingMark : Bool := false
  changeMark : Bool := false
  timerMs : Option Nat := none
  secs : Nat := 0
deriving DecidableEq, Repr

/-- The temperature program (R59). `gated` is clear until the first valve cycle (log 12). `bayC`, `bayH` are the
single-bay demands last posted, `cPrev`, `hPrev` those of the period before; `inBandS` is the crash in-band time in
seconds (R44; log 60); `vessel` says that the vessel rules of R56 are in force; the drives are CHILL eighths and HEAT
units. -/
structure Prog where
  secs : Nat := 0
  inBandS : Nat := 0
  cPrev : Nat := 0
  hPrev : Nat := 0
  bayC : Nat := 0
  bayH : Nat := 0
  cycleOn : Bool := false
  cycleMs : Nat := 0
  glycolMs : Nat := 0
  heaterMs : Nat := 0
  gated : Bool := false
  glycol : Bool := false
  heater : Bool := false
  starveMs : Option Nat := none
  pair : PairState := .single
  mismatch : Bool := false
  vessel : Bool := false
  driveC : Nat := 0
  driveH : Nat := 0
  appliedC : Nat := 0
  appliedH : Nat := 0
  lastS : Option Int := none
  leadHeard : Bool := false
deriving DecidableEq, Repr

/-- The pressure unit (R83). `wholeSpund` and `eqMark` are clear until the first hour begins (log 12). -/
structure Press where
  on : Bool := false
  pt : Option Nat := none
  carbLimited : Bool := false
  vent : Bool := false
  gas : Bool := false
  bandReq : Bool := false
  primReq : Bool := false
  holdReq : Bool := false
  gasTimer : Option Nat := none
  gasRef : Nat := 0
  hourClock : Nat := 0
  hourCount : Nat := 0
  acc : Nat := 0
  wholeSpund : Bool := false
  eqMark : Bool := false
  tHi : Option Int := none
  tLo : Option Int := none
  lastMode : PMode := .free
  lastP : Nat := 0
  lastT : Option Int := none
  log : List ActRec := []
deriving DecidableEq, Repr

/-- The pool unit (R107). Timers hold the time left. -/
structure Pools where
  items : PerPool PoolItem := ⟨{ budget := 30 }, { budget := 16 }, { budget := 2 }⟩
  peers : List Peer := []
  isolated : Bool := false
  silenceMs : Option Nat := none
  overdrawHold : Bool := false
  backoffMs : Option Nat := none
  overdraws : Nat := 0
deriving DecidableEq, Repr

/-- The link unit (R126). `idleSeen` says that an idle has been seen since the start, or since a frame that stopped the
receiver at its length field (R108, R113); `tx` is the holding whose
frame is on the line, and `presLeft` that frame where it is a presence notice whose slot the window's end has emptied (R116,
R133); `spacingMs` is the claim spacing left. -/
structure Link where
  idleSeen : Bool := false
  exc : Slot ExcNotice := {}
  claim : Slot ClaimNotice := {}
  pres : Slot PresNotice := {}
  evt : Slot EventReport := {}
  replies : List ReplyEntry := []
  reports : List (Held PourReport) := []
  tx : Option TxKind := none
  presLeft : Option PresNotice := none
  consec : Nat := 0
  drops : Nat := 0
  mute : Bool := false
  muteIntervals : Nat := 0
  rx : Nat := 0
  errored : Nat := 0
  overruns : Nat := 0
  spacingMs : Option Nat := none
  extraHeld : Bool := false
  seq : Option Nat := none
deriving DecidableEq, Repr

/-- The pour unit (R159). `serving` is SERVING. -/
structure Pour where
  queue : List Order := []
  active : Option ActivePour := none
  drain : Option DrainPour := none
  tap : Bool := false
  coast : List Nat := [0, 0, 0, 0]
  foamRun : Nat := 0
  serving : Bool := true
  freeze : Bool := false
  recent : List PourReport := []
deriving DecidableEq, Repr

/-- The excursion unit (R176). Temperature timers in seconds; `clearMs` and `holdMs` the time run. -/
structure Exc where
  state : StationState := .normal
  h : Bool := true
  kind : Option FaultKind := none
  saved : SavedContext := {}
  overtemp : Bool := false
  undertemp : Bool := false
  overpressure : Bool := false
  probeLost : Bool := false
  linkMute : Bool := false
  overS : Nat := 0
  underS : Nat := 0
  clearMs : Option Nat := none
  holdMs : Option Nat := none
  conflict : Bool := false
  peers : List PeerLine := List.replicate 8 {}
  log : List FaultEntry := []
deriving DecidableEq, Repr

/-- The health unit (R187). -/
structure Health where
  leak : Attr := {}
  chill : Attr := {}
  gasPerL : Attr := {}
  linkQ : Attr := {}
  meas : Option ChillMeas := none
  gasCount : Nat := 0
  poured : Nat := 0
  winCount : Nat := 0
  winErr : Nat := 0
  test : Option LeakTest := none
  log : List (Option TestDesc) := List.replicate 8 none
  newest : Nat := 0
deriving DecidableEq, Repr

/-- The request unit (R199). `joined` holds the flags that have joined the cause set since the event report on the line was
placed (R197); `restart` is how far the image work of an accepted RESTART is (R17). -/
structure Req where
  flags : FlagSet := 0
  mask : FlagSet := 0xFFFFF
  cause : FlagSet := 0
  joined : FlagSet := 0
  asm : Option Assembly := none
  abandoned : Nat := 0
  restart : Option ImageWork := none
deriving DecidableEq, Repr

/-- The part: its ten blocks, the start sequence, nonvolatile memory, and the ms since the last whole second of the
model's tick (log 2). -/
structure Station where
  nv : Nv := {}
  start : Start := {}
  sense : Sense := {}
  keg : Keg := {}
  prog : Prog := {}
  press : Press := {}
  pools : Pools := {}
  link : Link := {}
  pour : Pour := {}
  exc : Exc := {}
  health : Health := {}
  req : Req := {}
  subMs : Nat := 0
deriving DecidableEq, Repr

/-- The machine: the part, and the commands that are waiting, first in, first out. -/
structure State where
  station : Station
  pending : List Instr
deriving DecidableEq, Repr

/-- Reasons to stop with a fault: there is none. What the manual calls a fault (R161) is an event the excursion unit
takes, and the machine goes on. Safe and unsafe do not arise. -/
inductive Fault where
deriving DecidableEq, Repr

/-- Reasons for which a command has no meaning. -/
inductive Refusal where
  /-- Raised by `exec` for a command whose meaning is not written; safe: nothing is claimed of it. -/
  | notModelled (mnemonic : String)
deriving DecidableEq, Repr

/-- Step 1 of a power-on: every unit at its start value, the straps read as ID 0 and PAIR 00, both switches open, both
lines deasserted (log 4), nonvolatile memory erased (log 5). CHILL_RDY being deasserted, the starvation timer runs from 0
(R55). No command is waiting. -/
def State.reset : State :=
  { station := { prog := { starveMs := some 0 } }, pending := [] }

end Sys2Proof.Machine
end

