-- ==== Sys2Proof/Machine/Ops.lean ====
section
/-! DEFINITION. What the blocks publish and read of one another (00_scope, block overview), and the operations on pools,
peers and slots that several of them use. -/
namespace Sys2Proof.Machine
open Sys2Proof

/-! ## Sensing values -/

/-- A probe's average: the four entries' sum over four, truncated toward zero; absent while the history is empty (R23). -/
def Probe.avg (p : Probe) : Option Int :=
  match p.hist with
  | [a, b, c, d] => some ((a + b + c + d).tdiv 4)
  | _ => none

/-- T_avg (R23, R25). -/
def Station.tAvg (s : Station) : Option Int := s.sense.beer.avg

/-- The jacket temperature (R26). -/
def Station.jacketT (s : Station) : Option Int := s.sense.jacket.avg

/-- R25. -/
def Station.beerOk (s : Station) : Bool := s.sense.beer.state == .ok

/-- R27: the absolute pressure. -/
def Station.pAbs (s : Station) : Nat := s.sense.p + s.start.setup.pa

/-- R27: the pressure-at-ceiling flag. -/
def Station.ceiling (s : Station) : Bool := s.sense.p == 400

/-! ## Role, record and station state -/

/-- R128, R13. -/
def Station.follower (s : Station) : Bool := s.start.role == .follower

/-- The record's phase, NONE while it holds no batch (R3). -/
def Station.recPhase (s : Station) : Phase :=
  match s.keg.batch with
  | none => .none
  | some b => b.phase

/-- The keg-empty flag; its OFF value is clear (R1). -/
def Station.kegEmpty (s : Station) : Bool :=
  match s.keg.batch with
  | none => false
  | some b => b.kegEmpty

/-- The step at the current step index (R37). -/
def Batch.step (b : Batch) : Step := b.profile.getD b.stepIdx {}

/-- R5, R163: 5 % or less left, or declared empty. -/
def Batch.finished (b : Batch) : Bool := b.kegEmpty || decide (20 * b.remaining ≤ b.fill)

/-- R164. -/
def Station.inLockout (s : Station) : Bool := s.exc.state == .lockout

/-- In SAFE_HOLD with kind `k` active (R52, R72, R100). -/
def Station.holdFor (s : Station) (k : FaultKind) : Bool := s.exc.state == .safeHold && s.exc.kind == some k

/-- The roll-call window has ended (R133). -/
def Station.started (s : Station) : Bool := s.start.phase == .running

/-- The part has its supply. -/
def Station.powered (s : Station) : Bool := s.start.phase != .off

/-- The notice interval clock runs from the opening of the window (R123). -/
def Station.clockOn (s : Station) : Bool := s.start.phase == .window || s.start.phase == .running

/-- Step time counts (R42). -/
def Station.stepTimeCounts (s : Station) : Bool :=
  match s.keg.batch with
  | none => false
  | some b => b.run && !s.exc.h

/-- A RESTART has been accepted (R192). -/
def Station.restartPending (s : Station) : Bool := s.req.restart.isSome

/-! ## Setpoint and pressure mode -/

/-- S of a batch (R40): the target, or on a RAMP before program end r + (t − r) × m / d, truncated toward r. -/
def Batch.setpoint (b : Batch) : Int :=
  let st := b.step
  if b.programEnd then st.target
  else
    match st.kind, st.duration with
    | .ramp, some d => b.rampStart + ((st.target - b.rampStart) * (min b.stepMin d : Nat)).tdiv d
    | _, _ => st.target

/-- The published setpoint S: the batch's; on an ORPHAN the last setpoint heard; on any other follower absent (R40, R57, R58). -/
def Station.setpoint (s : Station) : Option Int :=
  if s.follower then (if s.prog.pair = .orphan then s.prog.lastS else none)
  else s.keg.batch.map Batch.setpoint

/-- The pressure mode in force: none on a follower, FREE with no batch, else the current step's (R61). -/
def Station.modeInForce (s : Station) : Option PMode :=
  if s.follower then none
  else
    match s.keg.batch with
    | none => some .free
    | some b => some b.step.mode

/-- The SPUND target (R61). -/
def Station.spundTarget (s : Station) : Option Nat :=
  if s.modeInForce = some .spund then s.keg.batch.bind fun b => b.step.spund else none

/-! ## Pours -/

/-- The stage of the pour in progress (R69). -/
def Station.stage (s : Station) : Option Stage := s.pour.active.map (·.stage)

/-- A pour is in progress while it is PRIMING, ACTIVE or PAUSED (R151). -/
def Station.pourInProgress (s : Station) : Bool := s.pour.active.isSome

/-- The pour unit holds a pour, drain window included (R151). -/
def Station.holdsPour (s : Station) : Bool := s.pour.active.isSome || s.pour.drain.isSome

/-- An order, not a manual pour, is in progress (R143). -/
def Station.orderInProgress (s : Station) : Bool :=
  match s.pour.active with
  | none => false
  | some a => a.tag != 0

/-- The QUEUED orders: the order being served stays at the head (R140). -/
def Station.queued (s : Station) : List Order := if s.orderInProgress then s.pour.queue.drop 1 else s.pour.queue

/-- The volume of a count of pulses: floor(pulses × 1000 / K), pulses taken modulo 2^32 (R29), held at 65535 (R140). -/
def Station.volumeSince (s : Station) (startCount : BitVec 32) : Nat :=
  min Config.top16 ((s.sense.pulses - startCount).toNat * 1000 / s.start.setup.k)

/-! ## Pools -/

/-- The item of a pool. -/
def PerPool.get {α : Type} (x : PerPool α) : Pool → α
  | .heat => x.heat | .chill => x.chill | .gas => x.gas

/-- The item of a pool replaced. -/
def PerPool.set {α : Type} (x : PerPool α) (p : Pool) (a : α) : PerPool α :=
  match p with
  | .heat => { x with heat := a }
  | .chill => { x with chill := a }
  | .gas => { x with gas := a }

/-- A function on each pool's item. -/
def PerPool.map {α β : Type} (f : α → β) (x : PerPool α) : PerPool β := ⟨f x.heat, f x.chill, f x.gas⟩

/-- The item of a pool. -/
def Station.item (s : Station) (p : Pool) : PoolItem := s.pools.items.get p

/-- The item of a pool rewritten. -/
def Station.setItem (s : Station) (p : Pool) (it : PoolItem) : Station :=
  { s with pools.items := s.pools.items.set p it }

/-- The class is IDLE whenever the demand is 0 (R85). -/
def Claim.norm (c : Claim) : Claim := if c.demand = 0 then {} else c

/-- R87. -/
def Station.peer? (s : Station) (id : Nat) : Option Peer := s.pools.peers.find? fun e => e.id == id

/-- N_known: the station itself and every entry, whatever its state (R87). -/
def Station.nKnown (s : Station) : Nat := 1 + s.pools.peers.length

/-- R56: the lead's partner has the next ID; R105: the follower's lead the one before. -/
def Station.partnerId (s : Station) : Nat := if s.follower then s.start.id - 1 else s.start.id + 1

/-- The partner's entry is PRESENT or SILENT. -/
def Station.partnerHeard (s : Station) : Bool :=
  match s.peer? s.partnerId with
  | none => false
  | some e => e.state != .absent

/-- R105: the follower's demands are held at 0 while its lead's entry is PRESENT or SILENT with role LEAD. -/
def Station.followHold (s : Station) : Bool :=
  s.follower &&
    match s.peer? s.partnerId with
    | none => false
    | some e => e.state != .absent && e.role == .lead

/-- R99: isolation grants apply while ISOLATED, and in SAFE_HOLD for LINK_MUTE (R100). -/
def Station.isoApplies (s : Station) : Bool := s.pools.isolated || s.holdFor .linkMute

/-- R100, R101: the pool is held at 0. -/
def Station.poolHeld (s : Station) (p : Pool) : Bool :=
  s.inLockout || s.holdFor .idConflict || (p == .heat && s.pools.overdrawHold)

/-- R94: a raise is pending in some pool whose claim as last sent differs from the own claim. -/
def PoolItem.waits (it : PoolItem) : Bool := it.level.isSome && it.lastSent != some it.own

/-- R94: the settle runs while the claim as last sent equals the own claim. -/
def PoolItem.settleRuns (it : PoolItem) : Bool := it.level.isSome && it.lastSent == some it.own

/-- R103: the station drives CHILL_REQ while its own CHILL demand is above 0. -/
def Station.chillReq (s : Station) : Bool := decide (0 < s.pools.items.chill.own.demand)

/-- R173: the station drives FAULT in SAFE_HOLD and LOCKOUT. -/
def Station.faultLine (s : Station) : Bool := s.exc.state != .normal

/-! ## Filtered inputs -/

/-- A raw level that has held for `heldMs` without interruption: the debounced or filtered level takes it at 16 ms, and a
level held for less only restarts the wait (R31, R34). -/
def filtered (heldMs : Nat) (f : Station → Station) (s : Station) : Station := if Config.filterMs ≤ heldMs then f s else s

/-! ## The control temperature -/

/-- The follower's beer temperature, used only while its entry is PRESENT and its notice reports its probe OK (R56). -/
def Station.followerT (s : Station) : Option Int :=
  match s.peer? s.partnerId with
  | none => none
  | some e => if e.state = .present ∧ e.probeOk then e.temp else none

/-- The control temperature T (R48): T_avg, or under the vessel rules the mean of the two bays, truncated toward zero,
either bay alone where only it may be used (R56). On a FOLLOWING follower it is shown alone, as its own T_avg (log 62). -/
def Station.controlT (s : Station) : Option Int :=
  if s.prog.vessel then
    match s.tAvg, s.followerT with
    | some a, some b => some ((a + b).tdiv 2)
    | some a, none => some a
    | none, b => b
  else s.tAvg

/-! ## The link -/

/-- R116: a frame placed in a slot replaces the one it holds; while that one is on the line the newcomer is held aside. -/
def Slot.place {α : Type} (sl : Slot α) (onLine : Bool) (a : α) : Slot α :=
  if onLine then { sl with aside := some { body := a } } else { held := some { body := a } }

/-- R116: after a success the frame held aside takes the slot. -/
def Slot.sent {α : Type} (sl : Slot α) : Slot α := { held := sl.aside }

/-- R116: after a loss of arbitration the frame held aside takes the slot, if there is one. -/
def Slot.lost {α : Type} (sl : Slot α) : Slot α :=
  match sl.aside with
  | none => sl
  | some a => { held := some a }

/-- R116: an unsent frame waits in the slot or aside. -/
def Slot.waiting {α : Type} (sl : Slot α) (onLine : Bool) : Bool := if onLine then sl.aside.isSome else sl.held.isSome

/-- The role a notice carries (R137). -/
def Station.roleCarried (s : Station) : Role :=
  match s.start.role with
  | .single => .single
  | .lead => if s.prog.mismatch then .single else .lead
  | .follower => .follower

/-- The pair drive a lead sends; a station that leads no pair sends 0 (R104; log 28). -/
def Station.driveSent (s : Station) : Nat × Nat :=
  if s.prog.pair = .leadPaired then (s.prog.driveC, s.prog.driveH) else (0, 0)

/-! ## A command and the part -/

/-- A change of the part alone: the queue stays as it is. -/
def State.on (s : State) (f : Station → Station) : State := { s with station := f s.station }

/-- The outcome of a command whose effect on the part is `f`. A part without supply takes no event (R16; log 32). -/
def act (f : Station → Station) (s : State) : Host.Outcome State Fault Refusal :=
  .next (if s.station.powered then s.on f else s)

end Sys2Proof.Machine
end

