-- ==== Sys2Proof/Machine/Flags.lean ====
section
/-! DEFINITION. The twenty event flags, the status head, and the placing of event reports (R194, R197, R202). -/
namespace Sys2Proof.Machine
open Sys2Proof

/-- The batch number, 0 with no batch (R1). -/
def Station.batchNumber (s : Station) : Nat :=
  match s.keg.batch with
  | none => 0
  | some b => b.number

/-- Remaining volume, 0 with no batch (R1). -/
def Station.remaining (s : Station) : Nat :=
  match s.keg.batch with
  | none => 0
  | some b => b.remaining

/-- A temperature in two bytes, −32768 while absent (R202). -/
def tempBytes (t : Option Int) : List Byte := be16i (t.getD (-32768))

/-- The status head (R202). -/
def statusHead (s : Station) : List Byte :=
  [ byte (32 * s.start.id + 8 * s.start.role.code + 2 * s.exc.state.code + b2n s.exc.h)
  , byte (16 * kindCode s.exc.kind + 2 * s.recPhase.code + b2n s.keg.commit.isSome) ]
  ++ be16 s.batchNumber ++ be16 s.remaining ++ tempBytes s.tAvg
  ++ be16 (s.sense.p + 512 * s.keg.persist.code + 2048 * s.sense.beer.state.code + 8192 * b2n s.pour.tap
      + 16384 * b2n s.link.mute + 32768 * b2n s.pools.isolated)
  ++ FlagSet.bytes s.req.flags ++ FlagSet.bytes s.req.cause

/-- A flag stands (R194). -/
def Station.flag (s : Station) (f : Flag) : Bool := s.req.flags.getLsbD f.pos

/-- The event report of R197, placed in its slot. -/
def placeReport (s : Station) : Station :=
  { s with link.evt := s.link.evt.place (s.link.tx == some .event) { head := statusHead s, cause := s.req.cause } }

/-- A block sets a flag (R194). Newly set with its mask mark enabled, it joins the cause set and places an event report
(R197); a flag that joins while a report is on the line joins after that report's placement. -/
def setFlag (f : Flag) (s : Station) : Station :=
  if s.flag f then s
  else
    let s := { s with req.flags := s.req.flags ||| f.bit }
    if s.req.mask.getLsbD f.pos then
      placeReport
        { s with
          req.cause := s.req.cause ||| f.bit
          req.joined := if s.link.tx = some .event then s.req.joined ||| f.bit else s.req.joined }
    else s

/-- The pressure unit clears CARB_LIMITED at an unclamped computation (R63, R194). -/
def clearFlag (f : Flag) (s : Station) : Station := { s with req.flags := s.req.flags &&& ~~~f.bit }

/-- A flag set where a condition holds. -/
def setFlagIf (c : Bool) (f : Flag) (s : Station) : Station := if c then setFlag f s else s

end Sys2Proof.Machine
end

