-- ==== Sys2Proof/Machine/Health.lean ====
section
/-! DEFINITION. The health attributes: grading, measurements, and the windows they are measured over (R177 to R181). -/
namespace Sys2Proof.Machine
open Sys2Proof

/-- The state of a rising attribute with value `v` and threshold `t` (R177). -/
def gradeRising (t v : Nat) : AttrState := if 4 * v < 3 * t then .ok else if v ≤ t then .warn else .tripped

/-- The state of a falling attribute (R177). -/
def gradeFalling (t v : Nat) : AttrState := if 4 * t ≤ 3 * v then .ok else if t ≤ v then .warn else .tripped

/-- A measurement of a rising attribute (R177): the value replaced, the worst value kept, the state decided afresh. -/
def Attr.measureRising (t v : Nat) (a : Attr) : Attr :=
  { cur := some v
    worst := some (match a.worst with | none => v | some w => max w v)
    state := gradeRising t v }

/-- A measurement of a falling attribute (R177). -/
def Attr.measureFalling (t v : Nat) (a : Attr) : Attr :=
  { cur := some v
    worst := some (match a.worst with | none => v | some w => min w v)
    state := gradeFalling t v }

/-- The flags of a change of state (R177). -/
def gradeFlags (old new : AttrState) (s : Station) : Station :=
  match old, new with
  | .ok, .warn => setFlag .healthWarn s
  | .ok, .tripped | .warn, .tripped => setFlag .healthTrip s
  | _, _ => s

/-- LEAK takes the decay rate of a test (R178). -/
def measureLeak (v : Nat) (s : Station) : Station :=
  let a := s.health.leak.measureRising Config.leakThreshold v
  gradeFlags s.health.leak.state a.state { s with health.leak := a }

/-- CHILL_RESPONSE (R179). -/
def measureChill (v : Nat) (s : Station) : Station :=
  let a := s.health.chill.measureFalling Config.chillThreshold v
  gradeFlags s.health.chill.state a.state { s with health.chill := a }

/-- GAS_PER_LITRE (R180). -/
def measureGas (v : Nat) (s : Station) : Station :=
  let a := s.health.gasPerL.measureRising Config.gasThreshold v
  gradeFlags s.health.gasPerL.state a.state { s with health.gasPerL := a }

/-- LINK_QUALITY (R181). -/
def measureLink (v : Nat) (s : Station) : Station :=
  let a := s.health.linkQ.measureRising Config.linkThreshold v
  gradeFlags s.health.linkQ.state a.state { s with health.linkQ := a }

/-- A CRASH step becomes current (R179): a measurement opens, void where T is absent. None on a follower. -/
def startChill (s : Station) : Station :=
  if s.follower then s else { s with health.meas := some { start := s.controlT } }

/-- floor((start − end) × 60,000 / glycol-open ms), 0 when nothing was cooled (R179). -/
def chillValue (start fin : Int) (openMs : Nat) : Nat := (start - fin).toNat * 60000 / openMs

/-- The measurement closes (R179): a value where it is not void, T is present, the valve was open for a minute, and the
station is in NORMAL. -/
def closeChill (s : Station) : Station :=
  match s.health.meas with
  | none => s
  | some m =>
      let s' := { s with health.meas := none }
      match m.start, s.controlT with
      | some a, some b =>
          if s.exc.state = .normal ∧ 60000 ≤ m.openMs then measureChill (chillValue a b m.openMs) s' else s'
      | _, _ => s'

/-- R180: the gas and poured counts become 0. -/
def clearGasCounts (s : Station) : Station := { s with health.gasCount := 0, health.poured := 0 }

/-- A gas-open second (R80, R180). -/
def gasSecond (s : Station) : Station :=
  if s.recPhase = .serve then { s with health.gasCount := satAdd Config.top16 s.health.gasCount 1 } else s

/-- A completed pour's delivered volume (R152, R180). -/
def pouredVolume (d : Nat) (s : Station) : Station :=
  if s.recPhase = .serve then
    let n := s.health.poured + d
    if 10000 ≤ n then clearGasCounts (measureGas (s.health.gasCount * 1000 / n) s)
    else { s with health.poured := n }
  else s

/-- A frame received, errored or not (R181). -/
def windowFrame (bad : Bool) (s : Station) : Station :=
  let n := s.health.winCount + 1
  let e := s.health.winErr + b2n bad
  if n < 1000 then { s with health.winCount := n, health.winErr := e }
  else { measureLink e s with health.winCount := 0, health.winErr := 0 }

end Sys2Proof.Machine
end

