-- ==== Sys2Proof/Machine/PressureLevels.lean ====
section
/-! DEFINITION. What the pressure unit's decisions read: the vent by its levels and impositions (R65, R66, R69, R71 to R75),
the gas requests, and the demand and class they give (R67, R68, R70). -/
namespace Sys2Proof.Machine
open Sys2Proof

/-! ## The vent -/

/-- Band control with opening level `u` and closing level `l` (R66). -/
def bandVent (v : Bool) (p u l : Nat) : Bool := if v then decide (l < p) else decide (u < p)

/-- The target L of the band: P_sp, or P_t, or Pr in CARB with P_t absent (R66). -/
def Station.bandTarget (s : Station) : Nat :=
  if s.modeInForce = some .spund then s.spundTarget.getD s.start.setup.pr else s.press.pt.getD s.start.setup.pr

/-- The vent as the mode and any pour have it, from the vent's state `v`; `free` is what FREE gives with no pour (R65,
R66, R69, R71). -/
def Station.ventByMode (s : Station) (v free : Bool) : Bool :=
  let h := s.start.setup.band
  let fp := s.start.setup.fp
  let l := s.bandTarget
  match s.stage, s.modeInForce with
  | _, none => false
  | some .priming, _ => false
  | some _, some .free => bandVent v s.sense.p (fp + 3 * h) (fp + 2 * h)
  | some _, some _ => bandVent v s.sense.p (max (l + h) (fp + 3 * h)) (max l (fp + 2 * h))
  | none, some .free => free
  | none, some _ => bandVent v s.sense.p (l + h) l

/-- The vent under the impositions (R72 to R75). -/
def Station.ventNext (s : Station) (v free : Bool) : Bool :=
  if s.follower then false
  else if s.inLockout || s.holdFor .overpressure then decide (s.start.setup.pr < s.sense.p)
  else if s.holdFor .kegLost || s.health.test.isSome then false
  else s.ventByMode v free

/-! ## Gas -/

/-- The CARB band's request from its state (R67); not kept in LOCKOUT (R73). -/
def Station.bandNext (s : Station) (r : Bool) : Bool :=
  if s.modeInForce = some .carb && !s.inLockout then
    match s.press.pt with
    | none => false
    | some t => if r then decide (s.sense.p < t) else decide (s.sense.p + s.start.setup.band < t)
  else false

/-- The hold request from its state, while a pour is ACTIVE or PAUSED (R70). -/
def Station.holdNext (s : Station) (r : Bool) : Bool :=
  let h := s.start.setup.band
  let fp := s.start.setup.fp
  if r then decide (s.sense.p < fp + 2 * h) else decide (s.sense.p < fp + h)

/-- The excursion unit imposes gas 0 (R72, R73). -/
def Station.gasBarred (s : Station) : Bool :=
  s.inLockout || s.holdFor .overpressure || s.holdFor .kegLost || s.holdFor .gasSupply || s.holdFor .leak

/-- The demand and class posted on GAS (R68). -/
def Station.gasClaim (s : Station) : Claim :=
  if (s.press.bandReq || s.press.primReq || s.press.holdReq) && !s.press.vent && !s.gasBarred
      && s.health.test.isNone && !s.follower then
    ⟨1, if s.pourInProgress then .pour else if s.exc.state = .safeHold then .recover else .hold⟩
  else {}

end Sys2Proof.Machine
end

