-- ==== Sys2Proof/Machine/Pools.lean ====
section
/-! DEFINITION. The pool unit: allocation, claim-then-use, isolation, postings and claim notices (R84 to R105, R123, R124),
with what a change of in-use does at once to the valve cycle (R54), to the gas valve (R68) and to the pressure unit's
decisions (R60). -/
namespace Sys2Proof.Machine
open Sys2Proof

/-! ## What in-use drives -/

/-- The time in the valve cycle reaches `ms`; the glycol valve's open time is credited to an open CHILL_RESPONSE
measurement (R179). -/
def cycleReaches (ms : Nat) (s : Station) : Station :=
  if s.prog.cycleOn ∧ s.prog.cycleMs < ms then
    { s with
      prog.cycleMs := ms
      health.meas :=
        if s.prog.glycol then s.health.meas.map fun m => { m with openMs := m.openMs + (ms - s.prog.cycleMs) }
        else s.health.meas }
  else s

/-- The heater on time of `u` units (R53): 10,000 × u / Hmax ms, 0 with no heater, at most the cycle (R57). -/
def Station.heaterTime (s : Station) (u : Nat) : Nat :=
  if s.start.setup.hmax = 0 then 0 else min Config.cycleMs (Config.cycleMs * u / s.start.setup.hmax)

/-- The station's own part of an in-use value: under the vessel rules half, rounded up (R56). -/
def Station.ownPart (s : Station) (u : Nat) : Nat := if s.prog.vessel then (u + 1) / 2 else u

/-- The glycol open time of the cycle becomes `t`; if it has passed the valve closes at once (R54). -/
def setGlycolTime (t : Nat) (s : Station) : Station :=
  { s with prog.glycolMs := t, prog.glycol := s.prog.glycol && decide (s.prog.cycleMs < t) }

/-- The heater on time of the cycle becomes `t`; if it has passed the heater switches off at once (R54). -/
def setHeaterTime (t : Nat) (s : Station) : Station :=
  { s with prog.heaterMs := t, prog.heater := s.prog.heater && decide (s.prog.cycleMs < t) }

/-- The pair drive of a lead under the vessel rules (R56): the floor halves of the in-use values. -/
def setPairDrive (s : Station) : Station :=
  if s.prog.vessel then
    { s with prog.driveC := s.pools.items.chill.inUse / 2, prog.driveH := s.pools.items.heat.inUse / 2 }
  else s

/-- CHILL in-use falls to `v` (R54). A FOLLOWING follower drives from the pair drive (R57). -/
def chillFalls (v : Nat) (s : Station) : Station :=
  if s.prog.pair = .following then s else setPairDrive (setGlycolTime (s.ownPart v * Config.eighthMs) s)

/-- HEAT in-use falls to `v` (R54). -/
def heatFalls (v : Nat) (s : Station) : Station :=
  if s.prog.pair = .following then s else setPairDrive (setHeaterTime (s.heaterTime (s.ownPart v)) s)

/-- The gas-open timer follows its condition, the gas valve open and the tap closed (R80). -/
def syncGasTimer (s : Station) : Station :=
  match s.press.gasTimer, s.press.gas && !s.pour.tap with
  | none, true => { s with press.gasTimer := some 0, press.gasRef := s.sense.p }
  | some _, false => { s with press.gasTimer := none }
  | _, _ => s

/-- The gas valve is open while the posted GAS demand is 1 and GAS in-use is 1 (R68). -/
def syncGas (s : Station) : Station :=
  let it := s.pools.items.gas
  syncGasTimer { s with press.gas := decide (it.posted.demand = 1 ∧ it.inUse = 1) }

/-- A change of in-use is handed at once to the block that uses it (R93, R96, R99). A rise of HEAT or CHILL waits for the
next cycle start (R54). -/
def handOn (p : Pool) (old new : Nat) (s : Station) : Station :=
  match p with
  | .heat => if new < old then heatFalls new s else s
  | .chill => if new < old then chillFalls new s else s
  | .gas => if new = old then s else syncGas s

/-! ## Allocation -/

/-- Rank by class, highest first, then by ID, lowest first (R92). -/
def Part.before (a b : Part) : Bool :=
  b.claim.cls.code < a.claim.cls.code || (a.claim.cls.code == b.claim.cls.code && a.id ≤ b.id)

/-- A participant put in its rank. -/
def insertPart (a : Part) : List Part → List Part
  | [] => [a]
  | b :: l => if a.before b then a :: b :: l else b :: insertPart a l

/-- The participants in rank order. -/
def rankParts : List Part → List Part
  | [] => []
  | a :: l => insertPart a (rankParts l)

/-- The sum of the bases at floor `f` (R92). -/
def baseSum (f : Nat) : List Part → Nat
  | [] => 0
  | a :: l => min a.claim.demand f + baseSum f l

/-- Each participant's base plus extra, in rank order, with remainder `r` (R92). -/
def shares (f r : Nat) : List Part → List (Nat × Nat)
  | [] => []
  | a :: l =>
      let base := min a.claim.demand f
      let extra := min (a.claim.demand - base) r
      (a.id, base + extra) :: shares f (r - extra) l

/-- The shares of all participants of a pool with budget `b` (R92). -/
def allocate (b : Nat) (parts : List Part) : List (Nat × Nat) :=
  let f := b / parts.length
  shares f (b - baseSum f parts) (rankParts parts)

/-- The share of one participant; 0 for an ID that takes no part. -/
def shareOf (id : Nat) : List (Nat × Nat) → Nat
  | [] => 0
  | (i, n) :: l => if i = id then n else shareOf id l

/-- A peer's counted claim: none while ABSENT (R88). -/
def Peer.counted (e : Peer) (p : Pool) : Option Claim := if e.state = .absent then none else some (e.claims.get p)

/-- The participants of a pool (R92). -/
def Station.participants (s : Station) (p : Pool) : List Part :=
  let own := (s.item p).own
  (if own.demand = 0 then [] else [⟨s.start.id, own⟩]) ++
    s.pools.peers.filterMap fun e =>
      match e.counted p with
      | none => none
      | some c => if c.demand = 0 then none else some ⟨e.id, c⟩

/-- The grant of R99 while isolation grants apply, otherwise that of R92. -/
def Station.computeGrant (s : Station) (p : Pool) : Nat :=
  let it := s.item p
  if s.isoApplies then min it.own.demand (it.budget / s.nKnown)
  else if it.own.demand = 0 then 0
  else shareOf s.start.id (allocate it.budget (s.participants p))

/-- What a grant does to its pool (R93, R94, R95, R99, R100): held, in-use is 0 and no raise is pending; under isolation
grants, or at or below in-use, in-use becomes the grant; above it a raise becomes pending, or a pending one whose grant has
fallen settles anew at the new grant. -/
def PoolItem.granted (it : PoolItem) (held iso : Bool) (g : Nat) : PoolItem :=
  if held then { it with grant := g, inUse := 0, level := none, settleMs := 0 }
  else if iso || decide (g ≤ it.inUse) then { it with grant := g, inUse := g, level := none, settleMs := 0 }
  else if it.level.isNone || decide (g < it.grant) then
    { it with grant := g, level := some g, settleMs := Config.settleMs }
  else { it with grant := g }

/-- A grant acts on its pool, and a change of in-use on its user. -/
def applyGrant (p : Pool) (g : Nat) (s : Station) : Station :=
  let it := s.item p
  let it' := it.granted (s.poolHeld p) s.isoApplies g
  handOn p it.inUse it'.inUse (s.setItem p it')

/-- R91: a computation that gives the grant the pool already had changes nothing further. -/
def recompute (p : Pool) (s : Station) : Station :=
  if s.computeGrant p = (s.item p).grant then s else applyGrant p (s.computeGrant p) s

/-- Every pool recomputed. -/
def recomputeAll (s : Station) : Station := recompute .gas (recompute .chill (recompute .heat s))

/-- Holds or isolation grants have been laid or lifted: each pool's grant acts afresh (R93, R99, R100, R102). -/
def refreshAll (s : Station) : Station :=
  let r (p : Pool) (s : Station) := applyGrant p (s.computeGrant p) s
  r .gas (r .chill (r .heat s))

/-! ## Claim notices -/

/-- The next sequence number: 0 first, and after 255 (R88, R123). -/
def Station.nextSeq (s : Station) : Nat :=
  match s.link.seq with
  | none => 0
  | some n => if n = 255 then 0 else n + 1

/-- A claim notice with everything as it stands at placement (R123, R104). -/
def Station.claimNotice (s : Station) : ClaimNotice :=
  { role := s.roleCarried
    seq := s.nextSeq
    claims := s.pools.items.map (·.own)
    temp := s.tAvg
    probeOk := s.beerOk
    setpoint := s.setpoint
    driveChill := s.driveSent.1
    driveHeat := s.driveSent.2 }

/-- A fresh claim notice in the claim slot. -/
def placeClaim (s : Station) : Station :=
  { s with
    link.claim := s.link.claim.place (s.link.tx == some .claim) s.claimNotice
    link.seq := some s.nextSeq }

/-- R123, R124: a regular placement restarts the spacing and ends a held request. -/
def placeRegular (s : Station) : Station :=
  { placeClaim s with link.spacingMs := some Config.spacingMs, link.extraHeld := false }

/-- A claim notice waits unsent (R97, R124). -/
def Station.claimWaits (s : Station) : Bool := s.link.claim.waiting (s.link.tx == some .claim)

/-- A raise is pending in a pool whose claim is not yet on the link (R97, R124). -/
def Station.extraStands (s : Station) : Bool :=
  s.pools.items.heat.waits || s.pools.items.chill.waits || s.pools.items.gas.waits

/-- The request for an extra claim notice (R124), not acted on in the window or while MUTE: an unsent notice is replaced by
a fresh one, the spacing as it is; else one is placed at once, or the request is held while the spacing runs. -/
def askExtra (s : Station) : Station :=
  if !s.extraStands || !s.started || s.link.mute then s
  else if s.claimWaits then placeClaim s
  else if s.link.spacingMs.isSome then { s with link.extraHeld := true }
  else placeRegular s

/-- An own claim has changed (R97): an unsent notice is replaced by one with the present claims, unless MUTE; with none
unsent, a raise that waits on its claim asks for an extra notice, also where the own claim has fallen (log 56). -/
def claimsChanged (s : Station) : Station :=
  if s.claimWaits && !s.link.mute then placeClaim s else askExtra s

/-- A raise waits on its claim in some pool where none did in `before` (R97). -/
def Station.waitsSince (s before : Station) : Bool :=
  let it := s.pools.items
  let b := before.pools.items
  it.heat.waits && !b.heat.waits || it.chill.waits && !b.chill.waits || it.gas.waits && !b.gas.waits

/-- `f`, and the request for an extra notice where it brought a raise that waits on its claim (R97). -/
def askWhereRaised (f : Station → Station) (s : Station) : Station :=
  let s' := f s
  if s'.waitsSince s then askExtra s' else s'

/-! ## Postings -/

/-- An own-claim change of a pool (R85, R95): the settle of a pending raise is set back, and the grant recomputed. -/
def setOwn (p : Pool) (c : Claim) (s : Station) : Station :=
  let it := s.item p
  if it.own = c then s
  else
    recompute p (s.setItem p
      { it with own := c, settleMs := if it.level.isSome then Config.settleMs else it.settleMs })

/-- The own claim of a posted one: 0 and IDLE while the follower is held (R85, R105). -/
def Station.effective (s : Station) (c : Claim) : Claim := if s.followHold then {} else c

/-- A posting taken for one pool. -/
def postOne (p : Pool) (c : Claim) (s : Station) : Station :=
  setOwn p (s.effective c.norm) (s.setItem p { s.item p with posted := c.norm })

/-- The own claims of two states differ. -/
def Station.claims (s : Station) : PerPool Claim := s.pools.items.map (·.own)

/-- The notices that follow a change of own claims from `before`. -/
def afterPosting (before : PerPool Claim) (s : Station) : Station := if s.claims = before then s else claimsChanged s

/-- The program posts HEAT and CHILL (R85). -/
def postProgram (heat chill : Claim) (s : Station) : Station :=
  afterPosting s.claims (postOne .chill chill (postOne .heat heat s))

/-- The pressure unit posts GAS (R85), and its valve follows (R68). -/
def postGas (c : Claim) (s : Station) : Station :=
  syncGas (afterPosting s.claims (postOne .gas c s))

/-! ## The pressure unit's decisions -/

/-- The GAS demand is posted, and the gas valve follows (R68). -/
def postGasNow (s : Station) : Station := postGas s.gasClaim s

/-- A decision of the vent, and the posting that goes with it. As the vent opens the posting is 0, which closes the gas
valve; as it closes a standing request is posted again (R68). -/
def setVent (v : Bool) (s : Station) : Station := postGasNow { s with press.vent := v }

/-- The vent and the band's request decided at once, from the given states (R61, R66, R67, R72, R73, R74). -/
def decideNow (v free r : Bool) (s : Station) : Station :=
  let s := { s with press.bandReq := s.bandNext r }
  setVent (s.ventNext v free) s

/-- The decision at an event of R60 from the present states; a FREE vent keeps its state until the period (R65). -/
def decideAsIs (s : Station) : Station := decideNow s.press.vent s.press.vent s.press.bandReq s

/-- `f`, and the decision of R60, R66 and R67 where it changed GAS in-use. What a decision's own posting does to in-use
brings no further one (log 52). -/
def gasDecided (f : Station → Station) (s : Station) : Station :=
  let s' := f s
  if s'.pools.items.gas.inUse = s.pools.items.gas.inUse then s' else decideAsIs s'

/-! ## Regrants -/

/-- The hold of R105 has begun or ended: each pool's own claim is taken from what its block posts. -/
def reown (s : Station) : Station :=
  let r (p : Pool) (s : Station) := setOwn p (s.effective (s.item p).posted) s
  afterPosting s.claims (r .gas (r .chill (r .heat s)))

/-- Every grant computed anew after a change of what it reads (R91), with the extra notice of a raise it brought (R97) and
the decision of a change of GAS in-use (R60). -/
def regrant (s : Station) : Station := gasDecided (askWhereRaised recomputeAll) s

/-- Every grant acts afresh, with the same that follows (R93, R99, R100, R102). -/
def refreshGrants (s : Station) : Station := gasDecided (askWhereRaised refreshAll) s

/-! ## Settle, isolation and OVERDRAW -/

/-- The settle timer runs out (R96): in-use becomes the current grant. A timer that waits on its claim does not run out. -/
def settleOut (p : Pool) (s : Station) : Station :=
  let it := s.item p
  if it.settleRuns then
    gasDecided
      (fun s => handOn p it.inUse it.grant (s.setItem p { it with inUse := it.grant, level := none, settleMs := 0 })) s
  else s

/-- 4,000 ms of silence (R98). -/
def silenceOut (s : Station) : Station :=
  if s.pools.silenceMs.isNone then s
  else if 1 < s.nKnown then refreshGrants { s with pools.silenceMs := none, pools.isolated := true }
  else { s with pools.silenceMs := some Config.silenceMs }

/-- A frame received without error, or a successful send (R98, R99): the silence timer starts again, and isolation ends. -/
def linkAlive (s : Station) : Station :=
  if s.clockOn then
    let s' := { s with pools.silenceMs := some Config.silenceMs }
    if s.pools.isolated then refreshGrants { s' with pools.isolated := false } else s'
  else s

/-- OVERDRAW asserts (R101): HEAT held, the heater off at once, the back-off stopped, the count raised. -/
def overdrawOn (s : Station) : Station :=
  if s.sense.overdraw then s
  else
    let s := { s with
      sense.overdraw := true
      pools.overdrawHold := true
      pools.backoffMs := none
      pools.overdraws := satAdd Config.top16 s.pools.overdraws 1 }
    setHeaterTime 0 (applyGrant .heat (s.computeGrant .heat) s)

/-- OVERDRAW deasserts (R102): the back-off runs for (2 + own ID) × 500 ms. -/
def overdrawOff (s : Station) : Station :=
  if s.sense.overdraw then
    { s with sense.overdraw := false, pools.backoffMs := some ((2 + s.start.id) * Config.intervalMs) }
  else s

/-- The back-off runs out (R102): the hold is lifted, and a grant above in-use makes a raise pending. -/
def backoffOut (s : Station) : Station :=
  if s.pools.backoffMs.isSome then
    let s := { s with pools.backoffMs := none, pools.overdrawHold := false }
    askWhereRaised (applyGrant .heat (s.computeGrant .heat)) s
  else s

/-- SETTLE_TIMER_EXPIRY (R96). -/
def execSettleTimerExpiry (p : Pool) (s : State) : Host.Outcome State Fault Refusal := act (settleOut p) s

/-- SILENCE_TIMER_EXPIRY (R98). -/
def execSilenceTimerExpiry (s : State) : Host.Outcome State Fault Refusal := act silenceOut s

/-- OVERDRAW_ASSERT (R34, R101). -/
def execOverdrawAssert (s : State) (heldMs : Nat := Config.filterMs) : Host.Outcome State Fault Refusal :=
  act (filtered heldMs overdrawOn) s

/-- OVERDRAW_DEASSERT (R34, R102). -/
def execOverdrawDeassert (s : State) (heldMs : Nat := Config.filterMs) : Host.Outcome State Fault Refusal :=
  act (filtered heldMs overdrawOff) s

/-- BACKOFF_TIMER_EXPIRY (R102). -/
def execBackoffTimerExpiry (s : State) : Host.Outcome State Fault Refusal := act backoffOut s

/-- CLAIM_OFFSET_PLACEMENT (R123): after the window, and not while MUTE. -/
def execClaimOffsetPlacement (s : State) : Host.Outcome State Fault Refusal :=
  act (fun s => if s.started && !s.link.mute then placeRegular s else s) s

/-- CLAIM_SPACING_EXPIRY (R124): a held request that still stands places its extra notice now; one that does not lapses. -/
def execClaimSpacingExpiry (s : State) : Host.Outcome State Fault Refusal :=
  act (fun s =>
    if s.link.spacingMs.isNone then s
    else
      let s' := { s with link.spacingMs := none, link.extraHeld := false }
      if s.link.extraHeld && s.extraStands && s.started && !s.link.mute then placeRegular s' else s') s

/-- PROBE_PLACEMENT (R122): a MUTE station's fresh claim notice, the probe; that the eighth interval has come is the
command's word (log 1). -/
def execProbePlacement (s : State) : Host.Outcome State Fault Refusal :=
  act (fun s =>
    if s.started && s.link.mute then { placeClaim s with link.muteIntervals := 0, link.extraHeld := false } else s) s

end Sys2Proof.Machine
end

