-- ==== Sys2Proof/Machine/Pressure.lean ====
section
/-! DEFINITION. The pressure unit's target, solubility and the carbonation target (R62 to R64), and its decisions at the
events that the other blocks tell it of (R61, R69 to R74). -/
namespace Sys2Proof.Machine
open Sys2Proof

/-! ## Solubility and target -/

/-- The 17 knots of R62, −2 °C to 30 °C. -/
def sigmaKnots : List Nat := [180, 169, 159, 149, 140, 131, 123, 116, 109, 102, 96, 90, 85, 79, 75, 70, 66]

/-- σ_T (R62). -/
def solubility (t : Int) : Nat :=
  let n := (clampInt (-20) 300 t + 20).toNat
  let i := n / 20
  let a := sigmaKnots.getD i 66
  let b := sigmaKnots.getD (i + 1) 66
  if i = 16 then 66 else a - ((a - b) * (n - 20 * i) + 10) / 20

/-- P_abs of the target (R63). -/
def carbAbs (c sigma : Nat) : Nat := (100 * c + sigma / 2) / sigma

/-- The gauge target brought into 0..Pr, and whether it was clamped at Pr (R63). -/
def carbTarget (c pa pr : Nat) (t : Int) : Nat × Bool :=
  let g := carbAbs c (solubility t)
  if g < pa then (0, false) else if pr < g - pa then (pr, true) else (g - pa, false)

/-- The carbonation target of the record, 0 with no batch (R1). -/
def Station.carbWanted (s : Station) : Nat :=
  match s.keg.batch with
  | none => 0
  | some b => b.target

/-- The target settled (R61, R64), with the indication and the flag of R63. -/
def computeTarget (s : Station) : Station :=
  if s.modeInForce = some .carb then
    match s.tAvg with
    | none => { s with press.pt := none }
    | some t =>
        let r := carbTarget s.carbWanted s.start.setup.pa s.start.setup.pr t
        let s := { s with press.pt := some r.1, press.carbLimited := r.2 }
        if r.2 then setFlag .carbLimited s else clearFlag .carbLimited s
  else { s with press.pt := none, press.carbLimited := false }

/-- What a change of which the pressure unit re-decides on (R61): the mode in force and the SPUND target. -/
def Station.modeKey (s : Station) : Option PMode × Option Nat := (s.modeInForce, s.spundTarget)

/-! ## The decisions -/

/-- The mode in force or the SPUND target has changed (R61): a new CARB target at once (R64), the vent taken as closed and
the band's request as withdrawn. A FREE vent opens at once (log 20). -/
def redecide (s : Station) : Station := decideNow false true false (computeTarget s)

/-- `f`, and the re-decision of R61 where it changed the mode in force or the SPUND target. -/
def withMode (f : Station → Station) (s : Station) : Station :=
  let s' := f s
  if s'.modeKey = s.modeKey then s' else redecide s'

/-! ## What the pour unit tells -/

/-- A pour has started in PRIMING (R69): the priming request, the vent kept closed, the band's request decided (R67). -/
def toldPriming (s : Station) : Station :=
  decideAsIs { s with press.primReq := true }

/-- A pour has become ACTIVE (R67, R71): the band's request is decided, and in SPUND and CARB the vent by the levels of the
pour; a FREE vent keeps its state until the next period. -/
def enterActive (s : Station) : Station :=
  if s.modeInForce = some .free then postGasNow { s with press.bandReq := s.bandNext s.press.bandReq }
  else decideAsIs s

/-- A pour has started in ACTIVE (R70, R71): the hold request by decision, the vent from its last state. -/
def toldActive (s : Station) : Station := enterActive { s with press.holdReq := s.holdNext false }

/-- The pour has gone from PRIMING to ACTIVE (R69 to R71), the hold request withdrawn. -/
def toldPrimed (s : Station) : Station := enterActive { s with press.primReq := false, press.holdReq := false }

/-- The pour has gone from ACTIVE to PAUSED or back (R66, R67, R71): the vent and the band's request are decided; the hold
request waits for the period (R70). -/
def toldPause (s : Station) : Station := decideAsIs s

/-- No pour is in progress any longer (R69 to R71): from PRIMING the vent is taken as closed and the band's request as
withdrawn, from ACTIVE and PAUSED both go on from their states. A FREE vent waits for the next period (R65; log 20). -/
def toldEnd (priming : Bool) (s : Station) : Station :=
  let v := !priming && s.press.vent
  let r := !priming && s.press.bandReq
  decideNow v v r { s with press.primReq := false, press.holdReq := false }

/-! ## What the excursion and health units impose -/

/-- The active kind imposes on the vent or the gas (R72). -/
def Station.imposed (s : Station) : Bool :=
  s.holdFor .overpressure || s.holdFor .kegLost || s.holdFor .gasSupply || s.holdFor .leak

/-- The safe action of the active kind, taken or refreshed (R72): an imposition decides the vent and the band's request at
once (R66, R67); under a kind without one the posting alone follows the class, and a change of GAS in-use that it brings is an
event of R60. -/
def imposeHold (s : Station) : Station :=
  if s.imposed then decideAsIs s else gasDecided postGasNow s

/-- Entry into LOCKOUT (R73). -/
def imposeLockout (s : Station) : Station :=
  let s := { s with press.bandReq := false, press.primReq := false, press.holdReq := false }
  setVent (s.ventNext s.press.vent s.press.vent) s

/-- A resume (R72): from P, the standing requests and the vent's state. -/
def liftHold (s : Station) : Station := decideAsIs s

/-- A release from LOCKOUT (R73): the vent taken as closed and the band's request as withdrawn. -/
def liftLockout (s : Station) : Station := decideNow false false false s

/-- A leak test has started (R74): the vent closed; the band's request is decided as usual and not posted. -/
def testStarted (s : Station) : Station := setVent false { s with press.bandReq := s.bandNext s.press.bandReq }

/-- A leak test has ended (R74): the vent taken as closed. -/
def testEnded (s : Station) : Station := decideNow false false s.press.bandReq s

end Sys2Proof.Machine
end

