-- ==== Sys2Proof/Machine/LeakTest.lean ====
section
/-! DEFINITION. The leak test and the test log (R182 to R186). -/
namespace Sys2Proof.Machine
open Sys2Proof

/-- Batch minutes, 0 with no batch (R1). -/
def Station.batchMinutes (s : Station) : Nat :=
  match s.keg.batch with
  | none => 0
  | some b => b.batchMin

/-- A descriptor joins the test log at the position after the newest (R186). -/
def writeDesc (d : TestDesc) (s : Station) : Station :=
  let n := if s.health.newest = 8 then 1 else s.health.newest + 1
  { s with health.log := s.health.log.set (n - 1) (some d), health.newest := n }

/-- A leak test starts (R182). -/
def startTest (minutes : Nat) (s : Station) : Station :=
  testStarted
    { s with
      health.test := some
        { minutes := minutes
          startP := s.sense.p
          startAbs := s.pAbs
          startT := s.tAvg.getD 0
          startMin := s.batchMinutes } }

/-- A running test ends early (R185): descriptor, TEST_DONE, and the pressure unit told, in that order. -/
def endTestEarly (o : TestOutcome) (s : Station) : Station :=
  match s.health.test with
  | none => s
  | some t =>
      let d : TestDesc :=
        { startMin := t.startMin, minutes := t.ms / 60000, startP := t.startP, endP := s.sense.p, outcome := o
          decay := none }
      testEnded (setFlag .testDone (writeDesc d { s with health.test := none }))

/-- The decay of R184, signed. -/
def decayOf (startAbs : Nat) (startT endT : Int) (endAbs : Nat) : Int :=
  ((startAbs : Int) * (endT + 2732)).tdiv (startT + 2732) - endAbs

/-- The decay rate of R184. -/
def decayRate (decay : Int) (minutes : Nat) : Nat := decay.toNat * 60 / minutes

/-- A running test reaches its minutes (R184): the test is over, with its descriptor and its measurement. -/
def finishTest (t : LeakTest) (s : Station) : Station :=
  let decay := decayOf t.startAbs t.startT (s.tAvg.getD t.startT) s.pAbs
  let rate := decayRate decay t.minutes
  let d : TestDesc :=
    { startMin := t.startMin, minutes := t.minutes, startP := t.startP, endP := s.sense.p
      outcome := if rate ≤ 6 then .pass else .fail
      decay := some decay }
  measureLeak rate (writeDesc d { s with health.test := none })

end Sys2Proof.Machine
end

