-- ==== Sys2Proof/Machine/Crc.lean ====
section
/-! DEFINITION. The CRC-16 of the bay link and of the nonvolatile images (R14, R110): polynomial 0x1021, initial value
0xFFFF, no final inversion, each byte most significant bit first. -/
namespace Sys2Proof.Machine
open Sys2Proof

/-- The CRC register shifted by one bit, with the polynomial where the bit shifted out differs from the one shifted in.
The choice stands outside the recursive call, so that each register value is settled before the next bit. -/
def crcFrom (c : BitVec 16) : List Bool → BitVec 16
  | [] => c
  | b :: bits => if c.msb != b then crcFrom ((c <<< 1) ^^^ 0x1021#16) bits else crcFrom (c <<< 1) bits

/-- R110: from the initial value. -/
def crcBits (bits : List Bool) : BitVec 16 := crcFrom 0xFFFF#16 bits

/-- The low `n` bits of a number, most significant first. -/
def natBits : Nat → Nat → List Bool
  | 0, _ => []
  | n + 1, v => v.testBit n :: natBits n v

/-- The bits of bytes in the order sent. -/
def byteBits (l : List Byte) : List Bool := l.flatMap fun b => natBits 8 b.toNat

/-- The CRC of an image's bytes (R14). -/
def crcBytes (l : List Byte) : BitVec 16 := crcBits (byteBits l)

/-- The number that bits spell, most significant first. -/
def bitsNat (l : List Bool) : Nat := l.foldl (fun n b => 2 * n + (if b then 1 else 0)) 0

end Sys2Proof.Machine
end

