-- ==== Sys2Proof/Machine/Image.lean ====
section
/-! DEFINITION. The record image and the setup block in nonvolatile memory (R14, R129, R201, R202): encoding, checking
and decoding. -/
namespace Sys2Proof.Machine
open Sys2Proof

/-- A step in 10 bytes (R201). -/
def Step.bytes (st : Step) : List Byte :=
  [ byte (64 * st.kind.code + 16 * st.tag.tagCode + 4 * st.mode.code)
  , byte (4 * b2n st.duration.isSome + 2 * b2n st.threshold.isSome + b2n st.spund.isSome) ]
  ++ be16i st.target ++ be16 (st.duration.getD 0) ++ be16 (st.threshold.getD 0) ++ be16 (st.spund.getD 0)

/-- The step at byte `i` of an image. -/
def stepAt (l : List Byte) (i : Nat) : Step :=
  { kind := (StepKind.ofCode (at8 l i / 64)).getD .hold
    tag := Phase.ofTagCode (at8 l i / 16 % 4)
    target := at16i l (i + 2)
    duration := if atBit l (i + 1) 2 then some (at16 l (i + 4)) else none
    threshold := if atBit l (i + 1) 1 then some (at16 l (i + 6)) else none
    mode := (PMode.ofCode (at8 l i / 4 % 4)).getD .free
    spund := if atBit l (i + 1) 0 then some (at16 l (i + 8)) else none }

/-- Steps `0` to `n − 1` of an image. -/
def stepsAt (l : List Byte) (n : Nat) : List Step := (List.range n).map fun k => stepAt l (26 + 10 * k)

/-- Bytes 0 to 145 of the image (R202). With no batch only the tap lock stands. -/
def Rec.bytes (r : Rec) : List Byte :=
  match r.batch with
  | none => byte (2 * b2n r.tapLock) :: List.replicate 145 0
  | some b =>
      [ byte (1 + 2 * b2n r.tapLock + 4 * b2n b.kegEmpty + 8 * b2n b.programEnd + 16 * b2n b.run
          + 32 * b2n b.est.isSome)
      , byte (16 * b.profile.length + b.phase.code) ]
      ++ be16 b.number ++ be16 b.fill ++ be16 b.remaining ++ be32 b.total ++ be16 b.pours ++ be16 b.target
      ++ be16 (b.est.getD 0) ++ [byte b.stepIdx] ++ be16 b.stepMin ++ be16i b.rampStart ++ be24 b.batchMin
      ++ ((b.profile.take 12).flatMap Step.bytes ++ List.replicate (10 * (12 - b.profile.length)) 0)

/-- The whole valid image of a snapshot (R10, R14). -/
def Rec.image (r : Rec) : List Byte := r.bytes ++ be16 (crcBytes r.bytes).toNat

/-- R14: the stored checksum equals the CRC of the contents. `n` is the length of the contents. -/
def imageValid (n : Nat) (l : List Byte) : Bool :=
  l.length == n + 2 && at16 l n == (crcBytes (l.take n)).toNat

/-- R202: the checksum overwritten with the inverted CRC of the contents as they stand, so that it does not check. -/
def invalidate (n : Nat) (l : List Byte) : List Byte :=
  l.take n ++ be16 (~~~ (crcBytes (l.take n))).toNat

/-- The record a valid image loads (R15). -/
def Rec.ofImage (l : List Byte) : Rec :=
  { tapLock := atBit l 0 1
    batch :=
      if atBit l 0 0 then some
        { number := at16 l 2
          phase := Phase.ofCode (at8 l 1 % 8)
          fill := at16 l 4
          remaining := at16 l 6
          total := at32 l 8
          pours := at16 l 12
          kegEmpty := atBit l 0 2
          target := at16 l 14
          est := if atBit l 0 5 then some (at16 l 16) else none
          profile := stepsAt l (at8 l 1 / 16)
          stepIdx := at8 l 18
          stepMin := at16 l 19
          rampStart := at16i l 21
          run := atBit l 0 4
          programEnd := atBit l 0 3
          batchMin := at24 l 23 }
      else none }

/-- The image after a start's check: the record and whether the image was valid (R15). -/
def loadImage (l : List Byte) : Option Rec := if imageValid 146 l then some (Rec.ofImage l) else none

/-- R129: each setting of a block whose CRC checks, clamped to its range. -/
def Setup.ofBlock (l : List Byte) : Setup :=
  { budget := ⟨clampNat 1 255 (at8 l 0), clampNat 1 64 (at8 l 1), clampNat 1 8 (at8 l 2)⟩
    db := clampNat 1 10 (at8 l 3)
    hmax := clampNat 0 20 (at8 l 4)
    pr := clampNat 100 300 (at16 l 5)
    band := clampNat 2 15 (at8 l 7)
    pa := clampNat 70 105 (at8 l 8)
    k := clampNat 1000 20000 (at16 l 9)
    nominal := clampNat 20 100 (at8 l 11)
    beerMode := CalMode.ofCode (at8 l 12)
    beerTrim := clampNat 0 31 (at8 l 13)
    jacketMode := CalMode.ofCode (at8 l 14)
    jacketTrim := clampNat 0 31 (at8 l 15)
    fp := clampNat 10 100 (at8 l 16) }

/-- R129: the applied setup, or none where the block is blank or its CRC fails. -/
def readSetup (l : List Byte) : Option Setup := if imageValid 17 l then some (Setup.ofBlock l) else none

/-- The block a completed setup write leaves: its contents as sent, and their CRC (R191, R202). -/
def setupBlockOf (contents : List Byte) : List Byte := contents ++ be16 (crcBytes contents).toNat

end Sys2Proof.Machine
end

