-- ==== Sys2Proof/Machine/Record.lean ====
section
/-! DEFINITION. The keg record unit: writes and the persistence state, commits, the commit timer and the image (R1, R6 to
R17), and the commands that are its own. -/
namespace Sys2Proof.Machine
open Sys2Proof

/-- The record as a commit takes it (R10). -/
def Station.snapshot (s : Station) : Rec := ⟨s.keg.batch, s.keg.tapLock⟩

/-- A change of the record (R8, R11, R12): CLEAN becomes DIRTY; a commit in flight sees a change since its snapshot; the
commit timer starts when the record becomes DIRTY with no commit in flight. -/
def noteChange (s : Station) : Station :=
  { s with
    keg.persist := if s.keg.persist = .clean then .dirty else s.keg.persist
    keg.changeMark := s.keg.changeMark || s.keg.commit.isSome
    keg.timerMs := if s.keg.persist = .clean ∧ s.keg.commit = none then some Config.commitTimerMs else s.keg.timerMs }

/-- A write to the batch fields: discarded with no batch, no change where every field keeps its value (R1, R8). -/
def writeBatch (f : Batch → Batch) (s : Station) : Station :=
  match s.keg.batch with
  | none => s
  | some b => if f b = b then s else noteChange { s with keg.batch := some (f b) }

/-- A write of the tap lock L (R8, R155). -/
def writeTapLock (l : Bool) (s : Station) : Station :=
  if s.keg.tapLock = l then s else noteChange { s with keg.tapLock := l }

/-- A commit starts (R10): snapshot, change mark cleared, checksum invalidated, timer stopped. -/
def startCommit (s : Station) : Station :=
  { s with
    keg.commit := some { snap := s.snapshot }
    keg.changeMark := false
    keg.pendingMark := false
    keg.timerMs := none
    nv.image := invalidate 146 s.nv.image }

/-- The states in which there is something to commit (R9, R17). -/
def Persist.uncommitted : Persist → Bool
  | .clean => false
  | .off | .initial | .dirty => true

/-- A commit trigger (R9, R11, R13): none on a follower, nor before the record is loaded (log 13); the pending mark with a
commit in flight; none while a restart is pending (R17) or in CLEAN. -/
def commitTrigger (s : Station) : Station :=
  if s.follower || !s.keg.loaded then s
  else if s.keg.commit.isSome then { s with keg.pendingMark := true }
  else if s.restartPending || !s.keg.persist.uncommitted then s
  else startCommit s

/-- Several causes in one event are one trigger (R9): a commit that has started since the event began, in `before`, has no
pending mark from a later cause. -/
def oneTrigger (before s : Station) : Station :=
  if before.keg.commit = none ∧ s.keg.commit.isSome then { s with keg.pendingMark := false } else s

/-- The persistence state at a commit's completion (R10). -/
def persistAfter (batch : Option Batch) (c : Commit) (changed : Bool) : Persist :=
  match batch with
  | none => .off
  | some _ => if c.startedSince then .initial else if changed then .dirty else .clean

/-- R10, R12: a commit that ends in DIRTY with no new commit started restarts the timer. -/
def restartTimer (s : Station) : Station :=
  if s.keg.persist = .dirty ∧ s.keg.commit = none then { s with keg.timerMs := some Config.commitTimerMs } else s

/-- What follows a completion (R10, R17): with a restart pending the one final commit, else a pending commit. -/
def afterCommit (s : Station) : Station :=
  match s.req.restart with
  | some .waitFirst =>
      if s.keg.persist.uncommitted then startCommit { s with req.restart := some .final }
      else { s with req.restart := some .done }
  | some _ => { s with req.restart := some .done }
  | none =>
      if s.keg.pendingMark then
        if s.keg.persist.uncommitted then startCommit s else { s with keg.pendingMark := false }
      else s

/-- The commit in flight completes (R10): the image holds the snapshot under a valid checksum. -/
def completeCommit (c : Commit) (s : Station) : Station :=
  restartTimer <| afterCommit
    { s with
      nv.image := c.snap.image
      keg.commit := none
      keg.persist := persistAfter s.keg.batch c s.keg.changeMark }

/-- The record is DIRTY and the timer has run out: a trigger (R12). -/
def commitTimerOut (s : Station) : Station :=
  if s.keg.timerMs.isSome then commitTrigger { s with keg.timerMs := none } else s

/-- A minute of the batch (R7): counted while the record holds a batch and H is clear. -/
def batchMinute (s : Station) : Station :=
  if s.keg.batch.isSome && !s.exc.h then
    writeBatch (fun b => { b with batchMin := satAdd Config.top24 b.batchMin 1 }) { s with keg.secs := 0 }
  else s

/-- The write of a pour's end (R6): three fields in one write. -/
def writePour (d : Nat) : Station → Station :=
  writeBatch fun b =>
    { b with
      remaining := b.remaining - d
      total := satAdd Config.top32 b.total d
      pours := satAdd Config.top16 b.pours 1 }

/-- COMMIT_TIMER_EXPIRY (R12). -/
def execCommitTimerExpiry (s : State) : Host.Outcome State Fault Refusal := act commitTimerOut s

/-- COMMIT_COMPLETE (R10). -/
def execCommitComplete (s : State) : Host.Outcome State Fault Refusal :=
  act (fun s => match s.keg.commit with | none => s | some c => completeCommit c s) s

/-- BATCH_MINUTE_RISE (R7). -/
def execBatchMinuteRise (s : State) : Host.Outcome State Fault Refusal := act batchMinute s

/-- SETUP_WRITE_COMPLETE (R129, R191): the block holds the contents as sent, with their CRC. -/
def execSetupWriteComplete (s : State) : Host.Outcome State Fault Refusal :=
  act (fun s => match s.nv.setupWrite with
    | none => s
    | some c => { s with nv.setupBlock := setupBlockOf c, nv.setupWrite := none }) s

end Sys2Proof.Machine
end

