-- ==== Sys2Proof/Machine/PourService.lean ====
section
/-! DEFINITION. Pour service: starts, stages, metering, closes, completions and pour reports (R140 to R160), and the
commands that are its own. -/
namespace Sys2Proof.Machine
open Sys2Proof

/-! ## Starting -/

/-- The start conditions of R142. -/
def Station.mayStart (s : Station) : Bool :=
  s.exc.state == .normal && s.pour.serving && !s.holdsPour && s.sense.keg && !s.kegEmpty && !s.keg.tapLock
    && !s.restartPending

/-- The coast (R148): the mean of the history, clamped to 50 ml. -/
def Station.coast (s : Station) : Nat := min 50 (s.pour.coast.sum / 4)

/-- The close level of an order (R148). -/
def closeLevel (volume coast : Nat) : Nat := if volume - coast < volume / 2 then volume / 2 else volume - coast

/-- The default time limit in seconds (R141). -/
def defaultLimit (volume : Nat) : Nat := min 120 (10 + (volume + 24) / 25)

/-- The tap driven; the gas-open timer reads it (R80). -/
def setTap (v : Bool) (s : Station) : Station := syncGasTimer { s with pour.tap := v }

/-- A pour starts (R143), the test interrupted first. -/
def beginPour (tag : Nat) (kind : OrderKind) (requested : Nat) (level : Option Nat) (limit : Nat) (s : Station) :
    Station :=
  let s := endTestEarly .interrupted s
  let flows := decide (s.start.setup.fp ≤ s.sense.p)
  let s :=
    { s with
      pour.active := some
        { tag := tag
          kind := kind
          requested := requested
          closeLevel := level
          limitS := limit
          startCount := s.sense.pulses
          stage := if flows then .active else .priming
          everActive := flows } }
  if flows then toldActive (setTap true s) else toldPriming s

/-- The head order starts (R143, R148). -/
def startOrder (o : Order) (s : Station) : Station :=
  beginPour o.tag o.kind o.volume (some (closeLevel o.volume s.coast)) (o.limit.getD (defaultLimit o.volume)) s

/-- A manual pour starts (R145). -/
def startManual (s : Station) : Station := beginPour 0 .glass 0 none (defaultLimit 1000) s

/-- The head is tested (R142): an IMMEDIATE head that may start does. -/
def testHead (s : Station) : Station :=
  match s.pour.queue with
  | [] => s
  | o :: _ => if s.mayStart && o.start == .immediate then startOrder o s else s

/-! ## Reports and completion -/

/-- A report joins the pending ones (R119): with 4 pending the oldest that is not being sent is discarded. -/
def joinReport (onLine : Bool) (r : Held PourReport) (l : List (Held PourReport)) : List (Held PourReport) :=
  if l.length < Config.listEntries then l ++ [r]
  else if onLine then l.take 1 ++ l.drop 2 ++ [r]
  else l.drop 1 ++ [r]

/-- A pour report is placed, and enters the recent list (R119, R160). -/
def placePourReport (r : PourReport) (s : Station) : Station :=
  { s with
    link.reports := joinReport (s.link.tx == some .pourReport) { body := r } s.link.reports
    pour.recent := (r :: s.pour.recent).take 4 }

/-- An order that ends without being started completes: steps 1, 4 and 6 of R152. -/
def completeUnstarted (out : PourOutcome) (o : Order) (s : Station) : Station :=
  testHead <|
    placePourReport
      { tag := o.tag, kind := o.kind, requested := o.volume, delivered := 0, duration := 0, outcome := out }
      (writePour 0 s)

/-- Each QUEUED order ends, in queue order (R153 to R159): they leave the queue and complete (log 22). -/
def endQueued (out : PourOutcome) (s : Station) : Station :=
  s.queued.foldl (fun s o => completeUnstarted out o s)
    { s with pour.queue := if s.orderInProgress then s.pour.queue.take 1 else [] }

/-- The keg is declared empty (R153). -/
def declareEmpty (s : Station) : Station :=
  { endQueued .cancelled (setFlag .kegEmpty (writeBatch (fun b => { b with kegEmpty := true, remaining := 0 }) s)) with
    pour.foamRun := 0 }

/-- The test of a third foaming pour (R153). -/
def Station.foamsEmpty (s : Station) : Bool :=
  match s.keg.batch with
  | none => false
  | some b => !b.kegEmpty && decide (10 * b.remaining < b.fill)

/-- The foam run after a completion (R153). -/
def foamRunAfter (d : DrainPour) (s : Station) : Station :=
  if d.everActive then
    if d.outcome = .foam then
      if s.pour.foamRun + 1 < 3 then { s with pour.foamRun := s.pour.foamRun + 1 }
      else if s.foamsEmpty then declareEmpty s
      else { s with pour.foamRun := 0 }
    else { s with pour.foamRun := 0 }
  else s

/-- The report of a closed pour (R160). -/
def DrainPour.report (d : DrainPour) : PourReport :=
  { tag := d.tag, kind := d.kind, requested := d.requested, delivered := d.delivered, duration := d.duration
    outcome := d.outcome }

/-- The drain amount joins the coast history (R148, R152). -/
def joinCoast (d : DrainPour) (l : List Nat) : List Nat := l.drop 1 ++ [min Config.top16 (d.delivered - d.atClose)]

/-- A pour completes (R152), `drained` if it had a drain window. -/
def completePour (drained : Bool) (d : DrainPour) (s : Station) : Station :=
  let s := foamRunAfter d (writePour d.delivered { s with pour.drain := none })
  let s := if drained then { s with pour.coast := joinCoast d s.pour.coast } else s
  testHead (pouredVolume d.delivered (placePourReport d.report s))

/-! ## Closing -/

/-- The active pour as it stands closed with an outcome (R151). -/
def ActivePour.closed (a : ActivePour) (out : PourOutcome) : DrainPour :=
  { tag := a.tag, kind := a.kind, requested := a.requested, startCount := a.startCount, outcome := out
    duration := min Config.top16 (a.ms / 100), atClose := a.delivered, delivered := a.delivered
    everActive := a.everActive }

/-- The pour in progress closes (R151): a drain window where the tap was open and the outcome is not KEG_LOST, else the
completion at once. -/
def closePour (out : PourOutcome) (s : Station) : Station :=
  match s.pour.active with
  | none => s
  | some a =>
      let drains := s.pour.tap && out != .kegLost
      let d := a.closed out
      let s :=
        toldEnd (a.stage == .priming) <| setTap false
          { s with
            pour.active := none
            pour.drain := if drains then some d else s.pour.drain
            pour.queue := if a.tag = 0 then s.pour.queue else s.pour.queue.drop 1 }
      if drains then s else completePour false d s

/-- The metering close (R148): an ACTIVE order whose delivered volume stands at the close level closes DONE. -/
def meterClose (s : Station) : Station :=
  match s.pour.active with
  | none => s
  | some a =>
      match a.stage, a.closeLevel with
      | .active, some l => if l ≤ a.delivered then closePour .done s else s
      | _, _ => s

/-- A closing cause that acts on one stage (R146, R147). -/
def closeIn (st : Stage) (out : PourOutcome) (s : Station) : Station :=
  if s.stage = some st then closePour out s else s

/-- The primed signal (R69, R146): the pour enters ACTIVE. -/
def primed (s : Station) : Station :=
  match s.pour.active with
  | none => s
  | some a =>
      if a.stage = .priming then
        meterClose <| toldPrimed <| setTap true
          { s with pour.active := some { a with stage := .active, stageMs := 0, everActive := true } }
      else s

/-- A completed conversion during a pour (R147): ACTIVE below the floor pauses, PAUSED at the floor and h goes on. The
pressure unit is told; its hold request stands through both. -/
def pourPressure (s : Station) : Station :=
  match s.pour.active with
  | none => s
  | some a =>
      match a.stage with
      | .active =>
          if s.sense.p < s.start.setup.fp then
            toldPause
              (setTap false { s with pour.active := some { a with stage := .paused, stageMs := 0, foamMs := none } })
          else s
      | .paused =>
          if s.start.setup.fp + s.start.setup.band ≤ s.sense.p then
            meterClose
              (toldPause (setTap true { s with pour.active := some { a with stage := .active, stageMs := 0 } }))
          else s
      | .priming => s

/-- A counted pulse (R28, R30): the counter and the current bin. -/
def countPulse (s : Station) : Station :=
  { s with sense.pulses := s.sense.pulses + 1, sense.bin := s.sense.bin + 1 }

/-- The delivered volume recomputed at a counted pulse, drain window included (R29, R148, R151). -/
def remeter (s : Station) : Station :=
  { s with
    pour.active := s.pour.active.map fun a => { a with delivered := s.volumeSince a.startCount }
    pour.drain := s.pour.drain.map fun d => { d with delivered := s.volumeSince d.startCount } }

/-- A falling edge on FLOW (R28, R148). -/
def flowPulse (widthUs : Nat) (roseBeforeStart : Bool) (s : Station) : Station :=
  if 200 ≤ widthUs ∧ roseBeforeStart = false then meterClose (remeter (countPulse s)) else s

/-- The foam time at a bin end (R150). -/
def foamStep (s : Station) : Station :=
  match s.pour.active with
  | none => s
  | some a =>
      if a.stage = .active then
        let f :=
          if 2 * s.start.setup.nominal < s.sense.rate then
            match a.foamMs with
            | none => some 0
            | some t => some (min Config.foamMs (t + 100))
          else none
        { s with pour.active := some { a with foamMs := f } }
      else s

/-- A bin ends (R30, R150): the oldest of the ten leaves, the current one joins, and the rate is recomputed. -/
def rateBin (s : Station) : Station :=
  let bins := s.sense.bins.drop 1 ++ [s.sense.bin]
  foamStep { s with sense.bins := bins, sense.bin := 0, sense.rate := bins.sum * 1000 / s.start.setup.k }

/-- The foam time has reached 2,000 ms (R150). -/
def foamOut (s : Station) : Station :=
  match s.pour.active with
  | none => s
  | some a => if a.foamMs.isSome then closePour .foam s else s

/-- The time limit has run out (R149). -/
def limitOut (s : Station) : Station :=
  match s.pour.active with
  | none => s
  | some a => closePour .timeout { s with pour.active := some { a with ms := a.limitS * 1000 } }

/-- The drain window has ended (R151, R152). -/
def drainOut (s : Station) : Station :=
  match s.pour.drain with
  | none => s
  | some d => completePour true d s

/-! ## The handle -/

/-- The phase is SERVE and a manual pour may start (R145). -/
def Station.manualMayStart (s : Station) : Bool := s.mayStart && s.recPhase == .serve

/-- A handle press taken by the pour unit (R144). -/
def takePress (s : Station) : Station :=
  if s.follower then s
  else if s.orderInProgress then closePour .stoppedByHandle s
  else if s.pour.drain.isSome || s.keg.tapLock || s.restartPending then s
  else
    match s.pour.queue with
    | o :: _ => if o.start = .onHandle && s.mayStart then startOrder o s else s
    | [] => if s.manualMayStart then startManual s else s

/-- A debounced press (R31). -/
def handlePress (s : Station) : Station :=
  if s.sense.handle then s else takePress { s with sense.handle := true }

/-- A debounced release (R31, R145): a manual pour closes DONE. -/
def handleRelease (s : Station) : Station :=
  if s.sense.handle then
    let s := { s with sense.handle := false }
    match s.pour.active with
    | none => s
    | some a => if a.tag = 0 then closePour .done s else s
  else s

/-- HANDLE_PRESS (R31, R144). -/
def execHandlePress (s : State) (heldMs : Nat := Config.filterMs) : Host.Outcome State Fault Refusal :=
  act (filtered heldMs handlePress) s

/-- HANDLE_RELEASE (R31, R145). -/
def execHandleRelease (s : State) (heldMs : Nat := Config.filterMs) : Host.Outcome State Fault Refusal :=
  act (filtered heldMs handleRelease) s

/-- FLOW_PULSE (R28, R148). -/
def execFlowPulse (widthUs : Nat) (roseBeforeStart : Bool) (s : State) : Host.Outcome State Fault Refusal :=
  act (flowPulse widthUs roseBeforeStart) s

/-- RATE_BIN_END (R30, R150). -/
def execRateBinEnd (s : State) : Host.Outcome State Fault Refusal := act rateBin s

/-- FOAM_TIME_EXPIRY (R150). -/
def execFoamTimeExpiry (s : State) : Host.Outcome State Fault Refusal := act foamOut s

/-- PRIMING_EXPIRY (R146). -/
def execPrimingExpiry (s : State) : Host.Outcome State Fault Refusal := act (closeIn .priming .lowPressure) s

/-- PAUSE_EXPIRY (R147). -/
def execPauseExpiry (s : State) : Host.Outcome State Fault Refusal := act (closeIn .paused .lowPressure) s

/-- POUR_TIME_LIMIT_EXPIRY (R149). -/
def execPourTimeLimitExpiry (s : State) : Host.Outcome State Fault Refusal := act limitOut s

/-- DRAIN_WINDOW_END (R151, R152). -/
def execDrainWindowEnd (s : State) : Host.Outcome State Fault Refusal := act drainOut s

end Sys2Proof.Machine
end

