-- ==== Sys2Proof/Machine/Program.lean ====
section
/-! DEFINITION. The temperature program's demands (R48 to R52), its valve cycle (R53 to R55) and the pair drive (R56, R57),
with the commands that reach its valves and its chiller line. -/
namespace Sys2Proof.Machine
open Sys2Proof

/-! ## Demands -/

/-- The cooling demand before the caps (R49). -/
def coolDemand (db cPrev : Nat) (e : Int) : Nat :=
  if (db : Int) < e then min 8 (((e - db).toNat + 1) / 2)
  else if 0 < e ∧ 0 < cPrev then 1
  else 0

/-- The heating demand (R50). -/
def heatDemand (db hmax hPrev : Nat) (e : Int) : Nat :=
  if e < -(db : Int) then min hmax ((hmax * (-e - db).toNat + 9) / 10)
  else if e < 0 ∧ 0 < hPrev ∧ 1 ≤ hmax then 1
  else 0

/-- The freeze guard (R49): 2 with the jacket below −10, 4 with the jacket probe FAILED or its temperature absent. -/
def freezeCap (s : Station) (c : Nat) : Nat :=
  match s.jacketT with
  | none => min c 4
  | some j => if j < -10 then min c 2 else if s.sense.jacket.state = .failed then min c 4 else c

/-- The current step is a RAMP or a CRASH and the program has not ended (R51); on an orphan the step is not known. -/
def Station.onSlope (s : Station) : Bool :=
  match s.keg.batch with
  | none => false
  | some b => b.step.kind != .hold && !b.programEnd

/-- R51, below the line of RECOVER. -/
def Station.errorClass (s : Station) (e : Int) : Cls :=
  if s.onSlope then .pull else if s.start.setup.db + 10 < e.natAbs then .pull else .hold

/-- The single-bay HEAT and CHILL demands, adjusted for the active excursion (R48 to R52). An orphan that has heard its
lead's claim posts none (R58). -/
def bayDemands (s : Station) : Claim × Claim :=
  match s.setpoint with
  | none => ({}, {})
  | some sp =>
      if s.inLockout || s.prog.leadHeard || s.holdFor .kegLost then ({}, {})
      else if s.holdFor .probeLost then ({}, Claim.norm ⟨freezeCap s 2, .hold⟩)
      else
        match s.controlT with
        | none => ({}, {})
        | some t =>
            let e := t - sp
            let h := if s.holdFor .overtemp then 0 else heatDemand s.start.setup.db s.start.setup.hmax s.prog.hPrev e
            let c := if s.holdFor .undertemp then 0 else freezeCap s (coolDemand s.start.setup.db s.prog.cPrev e)
            (Claim.norm ⟨h, if s.holdFor .undertemp then .recover else s.errorClass e⟩,
              Claim.norm ⟨c, if s.holdFor .overtemp then .recover else s.errorClass e⟩)

/-- The claim for the vessel: twice the single-bay demand, with its class (R56). -/
def Claim.twice (c : Claim) : Claim := { c with demand := 2 * c.demand }

/-- The demands are posted (R48, R56). -/
def postDemands (s : Station) : Station :=
  let d := bayDemands s
  let s := { s with prog.bayH := d.1.demand, prog.bayC := d.2.demand }
  if s.prog.vessel then postProgram d.1.twice d.2.twice s else postProgram d.1 d.2 s

/-- The recomputation of R52, within the valve cycle in progress. -/
def progRecompute (s : Station) : Station := if s.prog.cycleOn then postDemands s else s

/-! ## The valve cycle -/

/-- Both thermal outputs off at once (R53, R54). -/
def closeThermal (s : Station) : Station := { s with prog.glycol := false, prog.heater := false }

/-- CHILL_STARVED is tested (R55). -/
def starvedTest (s : Station) : Station :=
  setFlagIf
    (match s.prog.starveMs with
      | none => false
      | some t => decide (Config.starvationMs ≤ t ∧ 0 < s.pools.items.chill.posted.demand))
    .chillStarved s

/-- The times of a new cycle: from the pair drive on a FOLLOWING follower (R57), else from the own part of in-use (R53,
R56). -/
def cycleTimes (s : Station) : Station :=
  if s.prog.pair = .following then
    let c := freezeCap s s.prog.driveC
    { s with
      prog.appliedC := c
      prog.appliedH := s.prog.driveH
      prog.glycolMs := min Config.cycleMs (c * Config.eighthMs)
      prog.heaterMs := s.heaterTime s.prog.driveH }
  else
    { s with
      prog.glycolMs := min Config.cycleMs (s.ownPart s.pools.items.chill.inUse * Config.eighthMs)
      prog.heaterMs := s.heaterTime (s.ownPart s.pools.items.heat.inUse) }

/-- A valve cycle starts (R53). -/
def startCycle (s : Station) : Station :=
  let s := setPairDrive (cycleTimes { s with prog.cycleMs := 0, prog.gated := !s.sense.chillRdy })
  starvedTest
    { s with
      prog.glycol := decide (0 < s.prog.glycolMs) && s.sense.chillRdy && !s.inLockout
      prog.heater := decide (0 < s.prog.heaterMs) && !s.inLockout }

/-- The glycol open time has passed (R53). -/
def glycolTimeEnd (s : Station) : Station :=
  if s.prog.glycol then
    let s := cycleReaches s.prog.glycolMs s
    { s with prog.glycol := false }
  else s

/-- The heater on time has passed (R53). -/
def heaterTimeEnd (s : Station) : Station :=
  if s.prog.heater then
    let s := cycleReaches s.prog.heaterMs s
    { s with prog.heater := false }
  else s

/-- CHILL_RDY asserts (R54, R55): the valve stays as it is until the next cycle. -/
def chillRdyOn (s : Station) : Station :=
  if s.sense.chillRdy then s else { s with sense.chillRdy := true, prog.starveMs := none }

/-- CHILL_RDY deasserts (R54, R55). Before the first cycle there is none to gate (log 12). -/
def chillRdyOff (s : Station) : Station :=
  if s.sense.chillRdy then
    { s with
      sense.chillRdy := false
      prog.glycol := false
      prog.gated := s.prog.gated || s.prog.cycleOn
      prog.starveMs := some 0 }
  else s

/-- The starvation timer reaches 20 minutes (R55). -/
def starvation (s : Station) : Station :=
  match s.prog.starveMs with
  | none => s
  | some t => starvedTest { s with prog.starveMs := some (max t Config.starvationMs) }

/-! ## The pair drive of a follower -/

/-- A pair drive received (R57): held, and acting at once on a FOLLOWING follower where, under the freeze guard as it now
stands, it is lower than the one applied (log 61). -/
def driveHeard (c h : Nat) (s : Station) : Station :=
  let s := { s with prog.driveC := c, prog.driveH := h }
  if s.prog.pair = .following then
    let e := freezeCap s c
    let s :=
      if e < s.prog.appliedC then setGlycolTime (e * Config.eighthMs) { s with prog.appliedC := e } else s
    if h < s.prog.appliedH then setHeaterTime (s.heaterTime h) { s with prog.appliedH := h } else s
  else s

/-- The pair drive becomes 0, acting at once (R56, R58; log 29). -/
def dropDrive (s : Station) : Station :=
  let s := { s with prog.driveC := 0, prog.driveH := 0 }
  if s.prog.pair = .following then
    setHeaterTime 0 (setGlycolTime 0 { s with prog.appliedC := 0, prog.appliedH := 0 })
  else s

/-- GLYCOL_OPEN_TIME_END (R53). -/
def execGlycolOpenTimeEnd (s : State) : Host.Outcome State Fault Refusal := act glycolTimeEnd s

/-- HEATER_ON_TIME_END (R53). -/
def execHeaterOnTimeEnd (s : State) : Host.Outcome State Fault Refusal := act heaterTimeEnd s

/-- CHILL_RDY_ASSERT (R34, R54, R55). -/
def execChillRdyAssert (s : State) (heldMs : Nat := Config.filterMs) : Host.Outcome State Fault Refusal :=
  act (filtered heldMs chillRdyOn) s

/-- CHILL_RDY_DEASSERT (R34, R54, R55). -/
def execChillRdyDeassert (s : State) (heldMs : Nat := Config.filterMs) : Host.Outcome State Fault Refusal :=
  act (filtered heldMs chillRdyOff) s

/-- CHILL_STARVATION_EXPIRY (R55). -/
def execChillStarvationExpiry (s : State) : Host.Outcome State Fault Refusal := act starvation s

end Sys2Proof.Machine
end

