-- ==== Sys2Proof/Machine/Excursion.lean ====
section
/-! DEFINITION. The excursion unit: taking a fault, SAFE_HOLD and LOCKOUT, resume and release, the conditions and the
temperature check, the fault log and the notices (R161 to R175), and the commands that are its own. -/
namespace Sys2Proof.Machine
open Sys2Proof

/-! ## Log and notice -/

/-- The entry of a fault taken now (R175). -/
def faultEntry (k : FaultKind) (lockout : Bool) (s : Station) : FaultEntry :=
  { kind := k
    batch := s.batchNumber
    minute := s.batchMinutes
    phase := s.recPhase
    stepIdx := match s.keg.batch with | none => 0 | some b => b.stepIdx
    tAvg := s.tAvg
    p := s.sense.p
    lockout := lockout }

/-- A ring of 8 entries, oldest first (R175). -/
def joinFault (e : FaultEntry) (l : List FaultEntry) : List FaultEntry :=
  (if l.length < 8 then l else l.drop 1) ++ [e]

/-- The log entry of a hold that begins, and its hold clock from 0 (R165, R167). -/
def openEntry (k : FaultKind) (lockout : Bool) (s : Station) : Station :=
  { s with exc.log := joinFault (faultEntry k lockout s) s.exc.log, exc.holdMs := some 0 }

/-- Whole minutes of the hold clock, holding at 65535 (R175); 0 while no hold runs (log 58). -/
def Station.holdMinutes (s : Station) : Nat := min Config.top16 (s.exc.holdMs.getD 0 / 60000)

/-- The newest entry of a list rewritten. -/
def onLast (f : FaultEntry → FaultEntry) : List FaultEntry → List FaultEntry
  | [] => []
  | [e] => [f e]
  | e :: l => e :: onLast f l

/-- The open entry of the hold, which is the newest, takes its cleared-at minute (R175), and the hold clock stops (log 58). -/
def closeEntry (s : Station) : Station :=
  { s with
    exc.log := onLast (fun e => { e with clearedAt := some (e.minute + s.holdMinutes) }) s.exc.log
    exc.holdMs := none }

/-- An excursion notice with the state as it now stands (R173). -/
def placeExcursion (s : Station) : Station :=
  { s with
    link.exc := s.link.exc.place (s.link.tx == some .excursion)
      { role := s.roleCarried, state := s.exc.state, kind := s.exc.kind } }

/-! ## Taking a fault -/

/-- The run state of the record, PAUSED with no batch (R165). -/
def Station.runState (s : Station) : Bool :=
  match s.keg.batch with
  | none => false
  | some b => b.run

/-- The program writes the run state (R47). -/
def writeRun (r : Bool) : Station → Station := writeBatch fun b => { b with run := r }

/-- The pour in progress under OVERPRESSURE (R158). -/
def overpressurePour (s : Station) : Station := if s.holdFor .overpressure then closePour .fault s else s

/-- A first fault (R165). The blocks act in the order of the rule's text: program, pressure unit, pool unit, pour unit. -/
def firstFault (k : FaultKind) (s : Station) : Station :=
  let s := { s with exc.saved := { run := s.runState, serving := s.pour.serving } }
  let s := { writeRun false s with pour.serving := false }
  let s := { s with exc.kind := some k, exc.h := true, exc.state := .safeHold, exc.clearMs := none }
  let s := overpressurePour (refreshGrants (imposeHold (progRecompute s)))
  setFlag .excursion (placeExcursion (openEntry k false (endTestEarly .aborted s)))

/-- A fault of the active kind in SAFE_HOLD (R166): its safe actions afresh in the program, the pressure unit, the pool unit
and the pour unit, in that order (log 43). -/
def refreshHold (s : Station) : Station :=
  overpressurePour (refreshGrants (imposeHold (progRecompute { s with exc.clearMs := none })))

/-- A second fault, or a fault during start-up (R167). -/
def lockoutEntry (k : FaultKind) (s : Station) : Station :=
  let s := { s with exc.kind := some k, exc.h := true, exc.state := .lockout, exc.clearMs := none }
  let s := refreshGrants (imposeLockout (closeThermal (progRecompute s)))
  let s := endTestEarly .aborted (endQueued .fault (closePour .fault s))
  setFlag .lockout (placeExcursion (commitTrigger (openEntry k true s)))

/-- A fault taken (R164, R168). -/
def takeFault (k : FaultKind) (s : Station) : Station :=
  match s.exc.state with
  | .normal => if s.exc.h then lockoutEntry k s else firstFault k s
  | .safeHold => if s.exc.kind = some k then refreshHold s else lockoutEntry k s
  | .lockout => s

/-- An ID_CONFLICT report (R115, R168). -/
def takeConflict (s : Station) : Station := takeFault .idConflict { s with exc.conflict := true }

/-! ## Resume and release -/

/-- A resume (R171). -/
def resumeStation (s : Station) : Station :=
  let s := writeRun s.exc.saved.run s
  let s := { s with pour.serving := s.exc.saved.serving, exc.saved := {} }
  let s := { s with exc.kind := none, exc.h := false, exc.state := .normal, exc.clearMs := none }
  let s := refreshGrants (liftHold (progRecompute s))
  testHead (placeExcursion (closeEntry s))

/-! ## Conditions -/

/-- The standing state of a condition kind (R161); a report leaves none. -/
def Station.stands (s : Station) : FaultKind → Bool
  | .overtemp => s.exc.overtemp
  | .undertemp => s.exc.undertemp
  | .overpressure => s.exc.overpressure
  | .probeLost => s.exc.probeLost
  | .linkMute => s.exc.linkMute
  | .kegLost | .gasSupply | .leak | .idConflict => false

/-- The standing state written. -/
def setStanding (k : FaultKind) (v : Bool) (s : Station) : Station :=
  match k with
  | .overtemp => { s with exc.overtemp := v }
  | .undertemp => { s with exc.undertemp := v }
  | .overpressure => { s with exc.overpressure := v }
  | .probeLost => { s with exc.probeLost := v }
  | .linkMute => { s with exc.linkMute := v }
  | .kegLost | .gasSupply | .leak | .idConflict => s

/-- An assertion (R161). -/
def assertCond (k : FaultKind) (s : Station) : Station := takeFault k (setStanding k true s)

/-- A withdrawal (R161, R169): under the active kind in SAFE_HOLD the clearance starts, and LINK_MUTE resumes at once. -/
def withdrawCond (k : FaultKind) (s : Station) : Station :=
  let s := setStanding k false s
  if s.holdFor k then
    if k = .linkMute then resumeStation s else { s with exc.clearMs := some 0 }
  else s

/-- A condition brought to a value. -/
def setCond (k : FaultKind) (v : Bool) (s : Station) : Station :=
  if s.stands k = v then s else if v then assertCond k s else withdrawCond k s

/-- Each condition that stands asserted is taken as a fault, in the order of R161 (R172). -/
def takeStanding (s : Station) : Station :=
  [FaultKind.overtemp, .undertemp, .overpressure, .probeLost, .linkMute].foldl
    (fun s k => if s.stands k then takeFault k s else s) s

/-- A release from LOCKOUT (R172). -/
def releaseStation (s : Station) : Station :=
  let s := { writeRun false s with pour.serving := true, exc.saved := {} }
  let s := { s with exc.kind := none, exc.h := false, exc.state := .normal, exc.clearMs := none }
  let s := progRecompute (liftLockout (refreshGrants s))
  takeStanding (testHead (placeExcursion (closeEntry s)))

/-- Five minutes of clearance (R169). -/
def clearanceOut (s : Station) : Station :=
  if s.exc.state = .safeHold ∧ s.exc.clearMs.isSome then resumeStation s else s

/-! ## The temperature check -/

/-- The temperature and the setpoint of the check, where it runs (R162). -/
def Station.checked (s : Station) : Option (Int × Int) :=
  if s.follower && s.prog.pair != .orphan then none
  else
    match s.tAvg, s.setpoint with
    | some t, some sp => some (t, sp)
    | _, _ => none

/-- A timer of R162: 0 where its condition does not hold, a second more where it does at a sample time. -/
def checkTimer (runs advance : Bool) (top n : Nat) : Nat :=
  if runs then (if advance then satAdd top n 1 else n) else 0

/-- The check (R162), `advance` at a beer probe sample time. -/
def tempCheck (advance : Bool) (s : Station) : Station :=
  match s.checked with
  | none =>
      setCond .undertemp false (setCond .overtemp false { s with exc.overS := 0, exc.underS := 0 })
  | some (t, sp) =>
      let o := checkTimer (decide (sp + 40 < t)) advance Config.overtempS s.exc.overS
      let u := checkTimer (decide (t < -25)) advance Config.undertempS s.exc.underS
      setCond .undertemp (decide (u = Config.undertempS)) <|
        setCond .overtemp (decide (o = Config.overtempS ∨ 350 < t)) { s with exc.overS := o, exc.underS := u }

/-- `f`, and the check where it changed the setpoint or stopped the check from running (R162); what triggers a commit in
both is one trigger (R9). -/
def withSetpoint (f : Station → Station) (s : Station) : Station :=
  let s' := f s
  if s'.setpoint = s.setpoint ∧ s'.checked.isSome = s.checked.isSome then s' else oneTrigger s (tempCheck false s')

/-- The over-temperature timer reaches 10 minutes (R162). -/
def overtempOut (s : Station) : Station :=
  if s.exc.overS = 0 then s else tempCheck false { s with exc.overS := Config.overtempS }

/-- The under-temperature timer reaches 60 s (R162). -/
def undertempOut (s : Station) : Station :=
  if s.exc.underS = 0 then s else tempCheck false { s with exc.underS := Config.undertempS }

/-! ## What brings faults -/

/-- A completed leak test (R178, R184), in the order of R184: the descriptor, the measurement and its fault, TEST_DONE, and
the pressure unit told. -/
def leakTestOut (s : Station) : Station :=
  match s.health.test with
  | none => s
  | some t =>
      let s := finishTest t s
      let s := if s.health.leak.state = .tripped then takeFault .leak s else s
      testEnded (setFlag .testDone s)

/-- The gas-open timer reaches 30 s (R80). -/
def gasOpenOut (s : Station) : Station :=
  if s.press.gasTimer.isNone then s
  else
    let s' := { s with press.gasTimer := some 0, press.gasRef := s.sense.p }
    if s.sense.p < s.press.gasRef + 2 then takeFault .gasSupply s' else s'

/-- The over-pressure check at a completed conversion (R81). -/
def overpressureCheck (s : Station) : Station :=
  if s.follower then s
  else if s.start.setup.pr + 30 < s.sense.p then setCond .overpressure true s
  else if s.sense.p ≤ s.start.setup.pr then setCond .overpressure false s
  else s

/-- A pressure conversion (R27, R81, R147). -/
def pressConversion (reading : Option Int) (s : Station) : Station :=
  match reading with
  | none => s
  | some v =>
      if s.sense.sampling then
        pourPressure (overpressureCheck { s with sense.p := (clampInt 0 400 v).toNat })
      else s

/-! ## The probes -/

/-- The calibration offset added, and the check of R20: a valid sample or none. -/
def calibrated (code : Nat) (conversion : Option Int) : Option Int :=
  match conversion with
  | none => none
  | some t =>
      let v := t + (code : Int) - 16
      if -300 ≤ v ∧ v ≤ 500 then some v else none

/-- A probe takes a sample (R23, R24). -/
def Probe.sample (p : Probe) (v : Option Int) : Probe :=
  match v, p.state with
  | some x, .ok => { p with hist := p.hist.drop 1 ++ [x] }
  | some x, _ => { p with hist := [x, x, x, x], state := .ok, holdMs := none }
  | none, .ok => { p with state := .holding, holdMs := some 0 }
  | none, _ => p

/-- A probe's sample time (R20, R23 to R25, R162). -/
def probeSample (which : ProbeId) (conversion : Option Int) (s : Station) : Station :=
  if s.sense.sampling then
    match which with
    | .jacket => { s with sense.jacket := s.sense.jacket.sample (calibrated s.sense.jacket.code conversion) }
    | .beer =>
        let b := s.sense.beer.sample (calibrated s.sense.beer.code conversion)
        let s := { s with sense.beer := b }
        tempCheck true (if b.state = .ok then setCond .probeLost false s else s)
  else s

/-- A hold timer has run out (R24). -/
def Probe.holdOut (p : Probe) : Probe := { p with state := .failed, holdMs := none }

/-- HOLDING becomes FAILED; for the beer probe PROBE_LOST is asserted (R24, R25). -/
def probeHoldOut (which : ProbeId) (s : Station) : Station :=
  match which with
  | .jacket =>
      if s.sense.jacket.state = .holding ∧ s.sense.jacket.holdMs.isSome then
        { s with sense.jacket := s.sense.jacket.holdOut }
      else s
  | .beer =>
      if s.sense.beer.state = .holding ∧ s.sense.beer.holdMs.isSome then
        setCond .probeLost true { s with sense.beer := s.sense.beer.holdOut }
      else s

/-- PROBE_SAMPLE (R20, R23, R24, R162). -/
def execProbeSample (which : ProbeId) (conversion : Option Int) (s : State) : Host.Outcome State Fault Refusal :=
  act (probeSample which conversion) s

/-- HOLD_TIMER_EXPIRY (R24, R25). -/
def execHoldTimerExpiry (which : ProbeId) (s : State) : Host.Outcome State Fault Refusal := act (probeHoldOut which) s

/-- OVERTEMP_TIMER_EXPIRY (R162). -/
def execOvertempTimerExpiry (s : State) : Host.Outcome State Fault Refusal := act overtempOut s

/-- UNDERTEMP_TIMER_EXPIRY (R162). -/
def execUndertempTimerExpiry (s : State) : Host.Outcome State Fault Refusal := act undertempOut s

/-- PRESSURE_CONVERSION (R27, R81, R147). -/
def execPressureConversion (reading : Option Int) (s : State) : Host.Outcome State Fault Refusal :=
  act (pressConversion reading) s

/-- GAS_OPEN_TIMER_EXPIRY (R80). -/
def execGasOpenTimerExpiry (s : State) : Host.Outcome State Fault Refusal := act gasOpenOut s

/-- CLEARANCE_TIMER_EXPIRY (R169). -/
def execClearanceTimerExpiry (s : State) : Host.Outcome State Fault Refusal := act clearanceOut s

/-- LEAK_TEST_TIMER_EXPIRY (R184, R178). -/
def execLeakTestTimerExpiry (s : State) : Host.Outcome State Fault Refusal := act leakTestOut s

end Sys2Proof.Machine
end

