-- ==== Sys2Proof/Machine/Batch.lean ====
section
/-! DEFINITION. The life of a batch: step time and step ends (R41 to R46), batch start and close (R3 to R5), the control
period (R48), the pressure period and the hour (R60, R76 to R79), the keg switch (R32, R33, R157, R163), and the commands
that are their own. -/
namespace Sys2Proof.Machine
open Sys2Proof

/-! ## Step ends -/

/-- The 12 newest of a log, oldest first. -/
def newest12 (l : List ActRec) : List ActRec := l.drop (l.length - 12)

/-- The activity condition of R43, its duration apart. -/
def activityQuiet (l : List ActRec) (threshold : Nat) : Bool :=
  decide (12 ≤ l.length) &&
    (newest12 l).all fun r =>
      match r.activity with
      | none => false
      | some a => decide (a < threshold)

/-- The duration is absent or has run (R43). -/
def Batch.durationDone (b : Batch) (ifAbsent : Bool) : Bool :=
  match b.step.duration with
  | none => ifAbsent
  | some d => decide (d ≤ b.stepMin)

/-- The end test of the current step at a rise of step elapsed minutes (R42, R43). -/
def stepDue (log : List ActRec) (b : Batch) : Bool :=
  if b.programEnd then false
  else
    match b.step.kind, b.step.threshold with
    | .hold, some th => b.durationDone true && activityQuiet log th
    | _, _ => b.durationDone false

/-- The phase follows the step index (R3). -/
def Batch.withPhase (b : Batch) : Batch := { b with phase := b.step.tag }

/-- The record of the next step (R41, R45). -/
def Batch.advanced (b : Batch) : Batch :=
  { b with rampStart := b.setpoint, stepIdx := b.stepIdx + 1, stepMin := 0 }.withPhase

/-- A step becomes current: its seconds and in-band time from 0 (R42, R44), and a CRASH opens a measurement (R179). -/
def stepCurrent (b : Batch) (s : Station) : Station :=
  let s := { s with prog.secs := 0, prog.inBandS := 0 }
  if b.step.kind = .crash then startChill s else s

/-- The current step ends (R45): the next becomes current, or on the final step the program ends. A measurement that its end
closes comes first (R179; log 67). -/
def endStep (b : Batch) (s : Station) : Station :=
  let s := closeChill s
  if b.stepIdx + 1 < b.profile.length then
    let b' := b.advanced
    let s := writeBatch (fun _ => b') s
    let s := setFlag .stepAdvanced (setFlagIf (b'.phase != b.phase) .phaseChanged (stepCurrent b' s))
    commitTrigger s
  else
    commitTrigger (setFlag .programEnd (writeBatch (fun b => { b with programEnd := true }) s))

/-- What a change of mode brings to the hour (R78): the equilibrium mark clears. -/
def modeMark (before : Option PMode) (s : Station) : Station :=
  if s.modeInForce = before then s else { s with press.eqMark := false }

/-- A step end with all that follows it: the equilibrium mark (R78), the re-decision of R61, the check of R162. -/
def stepEnd (s : Station) : Station :=
  match s.keg.batch with
  | none => s
  | some b => withSetpoint (withMode fun s => modeMark s.modeInForce (endStep b s)) s

/-- A step end where a test finds it due. -/
def stepEndIf (c : Bool) (s : Station) : Station := if c then stepEnd s else s

/-- Step elapsed minutes rise (R42), before the test. -/
def riseMinute (s : Station) : Station :=
  writeBatch (fun b => { b with stepMin := satAdd Config.top16 b.stepMin 1 }) { s with prog.secs := 0 }

/-- The step seconds count passes 59 while step time counts (R42); with step elapsed minutes held at 65535 the end is tested
all the same (log 53). -/
def stepMinute (s : Station) : Station :=
  if s.stepTimeCounts then
    withSetpoint
      (fun s =>
        let s := riseMinute s
        match s.keg.batch with
        | none => s
        | some b => stepEndIf (stepDue s.press.log b) s) s
  else s

/-- Step time counts on a CRASH step, whose in-band time is kept (R44), after program end too (R45). -/
def Station.crashCounts (s : Station) : Bool :=
  match s.keg.batch with
  | none => false
  | some b => s.stepTimeCounts && b.step.kind == .crash

/-- A CRASH step is running and may end (R44). -/
def Station.crashRuns (s : Station) : Bool :=
  match s.keg.batch with
  | none => false
  | some b => s.crashCounts && !b.programEnd

/-- The in-band time has reached 3,600 s (R44). -/
def crashInBand (s : Station) : Station :=
  if s.crashRuns && decide (0 < s.prog.inBandS) then
    stepEnd { s with prog.inBandS := max s.prog.inBandS Config.crashInBandS }
  else s

/-! ## Batch start and close -/

/-- What a batch start clears of the hour (R76, R78). -/
def hourBroken (s : Station) : Station := { s with press.wholeSpund := false, press.eqMark := false }

/-- A batch starts (R4). In SAFE_HOLD it starts PAUSED, with RUN in the saved context. -/
def openBatch (b : Batch) (s : Station) : Station :=
  let held := s.exc.state == .safeHold
  let b := { b with run := !held }
  let s :=
    { s with
      keg.batch := some b
      keg.persist := .initial
      keg.changeMark := s.keg.changeMark || s.keg.commit.isSome
      keg.commit := s.keg.commit.map fun c => { c with startedSince := true }
      keg.timerMs := none
      keg.secs := 0
      exc.saved := if held then { s.exc.saved with run := true } else s.exc.saved
      pour.foamRun := 0
      press.log := [] }
  commitTrigger (setFlag .phaseChanged (stepCurrent b (clearGasCounts (hourBroken s))))

/-- A batch start with all that follows it. -/
def startBatch (b : Batch) : Station → Station := withSetpoint (withMode (openBatch b))

/-- A batch closes (R5), by removal or by request; the flags set on the record as it then stands, PHASE_CHANGED before
KEG_REMOVED (log 37). -/
def dropBatch (removed : Bool) (s : Station) : Station :=
  let s :=
    { s with
      keg.batch := none
      keg.persist := .off
      keg.changeMark := s.keg.changeMark || s.keg.commit.isSome
      keg.timerMs := none
      health.meas := none }
  commitTrigger (setFlagIf removed .kegRemoved (setFlag .phaseChanged (clearGasCounts s)))

/-- A batch close with all that follows it. -/
def closeBatch (removed : Bool) (s : Station) : Station :=
  if s.keg.batch.isSome then withSetpoint (withMode (dropBatch removed)) s else s

/-! ## The control period -/

/-- The in-band time at a control period (R44), which has no stated top and holds at 2^32 − 1 s (log 60), and the close of a
measurement at the first in-band period (R179). -/
def inBand (s : Station) : Station :=
  match s.keg.batch with
  | none => s
  | some b =>
      if s.crashCounts then
        match s.controlT with
        | none => { s with prog.inBandS := 0 }
        | some t =>
            if (t - b.step.target).natAbs ≤ 5 then
              closeChill { s with prog.inBandS := satAdd Config.top32 s.prog.inBandS 10 }
            else { s with prog.inBandS := 0 }
      else s

/-- What the pair does at a cycle start: an orphan whose lead's claim was heard follows (R58), and a paired lead takes up
the vessel rules while its follower is heard (R56). -/
def pairAtCycle (s : Station) : Station :=
  if s.prog.pair = .orphan ∧ s.prog.leadHeard then
    { s with prog.pair := .following, prog.leadHeard := false }
  else if s.prog.pair = .leadPaired ∧ s.partnerHeard then { s with prog.vessel := true }
  else s

/-- The previous period's demands become those the latches read (R49, R50). -/
def latchDemands (s : Station) : Station := { s with prog.cPrev := s.prog.bayC, prog.hPrev := s.prog.bayH }

/-- A control period begins (R48). -/
def controlPeriod (s : Station) : Station :=
  if s.prog.cycleOn then
    startCycle (postDemands (latchDemands (inBand (withSetpoint pairAtCycle (cycleReaches Config.cycleMs s)))))
  else s

/-! ## The pressure period -/

/-- The activity of a period (R76): floor of a tenth of the absolute pressure while the vent is open by its SPUND band
decision with no pour in progress. -/
def addActivity (pourBefore : Bool) (s : Station) : Station :=
  if s.modeInForce = some .spund && s.press.vent && !pourBefore && !s.inLockout && !s.holdFor .overpressure then
    { s with press.acc := satAdd Config.top16 s.press.acc (s.pAbs / 10) }
  else s

/-- What ends the whole-SPUND mark (R76). -/
def Station.breaksSpund (s : Station) (pourBefore : Bool) : Bool :=
  s.modeInForce != some .spund || s.keg.batch.isNone || pourBefore || s.health.test.isSome || s.inLockout
    || s.holdFor .overpressure || s.holdFor .kegLost

/-- The target of the mode in force (R61). -/
def Station.target (s : Station) : Option Nat :=
  match s.modeInForce with
  | some .spund => s.spundTarget
  | some .carb => s.press.pt
  | _ => none

/-- P lies within h of a target (R78). -/
def nearTarget (p h : Nat) : Option Nat → Bool
  | none => false
  | some t => decide (p ≤ t + h ∧ t ≤ p + h)

/-- The highest or lowest of two optional temperatures. -/
def optJoin (f : Int → Int → Int) : Option Int → Option Int → Option Int
  | none, b => b
  | a, none => a
  | some a, some b => some (f a b)

/-- The spread of T_avg over the hour is at most 5 tenths (R78). -/
def spreadOk (hi lo : Option Int) : Bool :=
  match hi, lo with
  | some a, some b => decide (a - b ≤ 5)
  | _, _ => true

/-- The conditions of an equilibrium period (R78), its spread apart. -/
def Station.atRest (s : Station) (pourBefore : Bool) : Bool :=
  s.keg.batch.isSome && nearTarget s.sense.p s.start.setup.band s.target && s.tAvg.isSome && s.beerOk && !pourBefore
    && s.health.test.isNone && !s.inLockout

/-- The hour's tracking at a period (R76 to R79). -/
def trackHour (pourBefore : Bool) (s : Station) : Station :=
  let hi := optJoin max s.press.tHi s.tAvg
  let lo := optJoin min s.press.tLo s.tAvg
  { s with
    press.wholeSpund := s.press.wholeSpund && !s.breaksSpund pourBefore
    press.eqMark := s.press.eqMark && s.atRest pourBefore && spreadOk hi lo
    press.tHi := hi
    press.tLo := lo
    press.lastMode := s.modeInForce.getD .free
    press.lastP := s.sense.p
    press.lastT := s.tAvg }

/-- The gas-open timer and the gas-open seconds (R80), the valve read after the period's own posting (log 40). -/
def gasPeriod (s : Station) : Station :=
  let s := { s with press.gasTimer := s.press.gasTimer.map fun t => satAdd Config.gasOpenS t 1 }
  if s.press.gas then gasSecond s else s

/-- An imposition of gas 0, a leak test or a GAS in-use of 0 keeps the gas valve shut: no primed signal is given (R69;
log 19). -/
def Station.gasKeptShut (s : Station) : Bool :=
  s.gasBarred || s.health.test.isSome || s.pools.items.gas.inUse == 0

/-- The pour requests at a period (R69, R70): the primed signal at Fp + 2h or above, and the hold request. -/
def pourRequests (s : Station) : Station :=
  match s.stage with
  | none => s
  | some .priming =>
      if s.start.setup.fp + 2 * s.start.setup.band ≤ s.sense.p && !s.gasKeptShut then primed s else s
  | some _ => { s with press.holdReq := s.holdNext s.press.holdReq }

/-- The pressure period of a single or lead station (R60). Whether a pour is in progress is read at its beginning (log 54). -/
def pressDecisions (s : Station) : Station :=
  let pourBefore := s.pourInProgress
  let s := computeTarget s
  let s := { s with press.vent := s.ventNext s.press.vent true, press.bandReq := s.bandNext s.press.bandReq }
  gasPeriod (trackHour pourBefore (addActivity pourBefore (postGasNow (pourRequests s))))

/-- A pressure period begins (R60); a follower's runs its hour clock and the hour's marks alone (R75, R76, R78). -/
def pressPeriod (s : Station) : Station :=
  if s.press.on then
    let s := { s with press.hourClock := satAdd Config.hourPeriods s.press.hourClock 1 }
    if s.follower then trackHour s.pourInProgress s else pressDecisions s
  else s

/-- C_est (R79). -/
def carbEstimate (pAbs sigma : Nat) : Nat := min 999 ((pAbs * sigma + 50) / 100)

/-- The estimate of an equilibrium hour is written (R79). -/
def writeEstimate (s : Station) : Station :=
  match s.press.lastT with
  | none => s
  | some t =>
      if s.press.eqMark then
        writeBatch (fun b => { b with est := some (carbEstimate (s.press.lastP + s.start.setup.pa) (solubility t)) }) s
      else s

/-- A record joins the activity log (R77). -/
def joinActivity (r : ActRec) (l : List ActRec) : List ActRec := (if l.length < 24 then l else l.drop 1) ++ [r]

/-- The hour's record, and the hand-over to the program (R43, R77). -/
def logHour (s : Station) : Station :=
  match s.keg.batch with
  | none => s
  | some _ =>
      if s.follower then s
      else
        let r : ActRec :=
          { hour := s.press.hourCount, mode := s.press.lastMode
            activity := if s.press.wholeSpund then some s.press.acc else none }
        let s := writeEstimate { s with press.log := joinActivity r s.press.log }
        match s.keg.batch with
        | none => s
        | some b =>
            stepEndIf (s.stepTimeCounts && b.step.kind == .hold && b.step.threshold.isSome && stepDue s.press.log b) s

/-- An hour ends (R76, R77). -/
def hourEnd (s : Station) : Station :=
  if s.press.on then
    let s :=
      logHour
        { s with
          press.hourClock := 0
          press.hourCount := if s.press.hourCount = Config.top16 then 1 else s.press.hourCount + 1 }
    { s with press.acc := 0, press.wholeSpund := true, press.eqMark := true, press.tHi := none, press.tLo := none }
  else s

/-! ## The keg switch -/

/-- The keg transition latch (R33). -/
def latchKeg (s : Station) : Station := setFlagIf (s.sense.keg != s.sense.ackKeg) .kegChanged s

/-- The close case of a removal (R5, R157, R163). -/
def Station.closesAtRemoval (s : Station) : Bool :=
  match s.keg.batch with
  | none => false
  | some b => b.phase == .serve && b.finished

/-- A debounced insertion (R32, R33, R142). -/
def kegIn (s : Station) : Station :=
  if s.sense.keg then s else testHead (latchKeg { s with sense.keg := true })

/-- A debounced removal (R32, R33, R157, R163, R185): the pour closes, then the batch closes or the fault is taken, and a
test aborts. The test for the close case is made once, of the record as the removal finds it (log 21). -/
def kegOut (s : Station) : Station :=
  if s.sense.keg then
    let s := latchKeg { s with sense.keg := false }
    if s.closesAtRemoval then
      endTestEarly .aborted (closeBatch true (endQueued .kegLost (closePour .kegLost s)))
    else if s.recPhase = .none then endTestEarly .aborted s
    else endTestEarly .aborted (takeFault .kegLost (closePour .kegLost s))
  else s

/-- KEG_INSERTION (R32, R33, R142). -/
def execKegInsertion (s : State) (heldMs : Nat := Config.filterMs) : Host.Outcome State Fault Refusal :=
  act (filtered heldMs kegIn) s

/-- KEG_REMOVAL (R32, R33, R157, R163). -/
def execKegRemoval (s : State) (heldMs : Nat := Config.filterMs) : Host.Outcome State Fault Refusal :=
  act (filtered heldMs kegOut) s

/-- STEP_MINUTE_RISE (R42, R43). -/
def execStepMinuteRise (s : State) : Host.Outcome State Fault Refusal := act stepMinute s

/-- CRASH_IN_BAND_EXPIRY (R44). -/
def execCrashInBandExpiry (s : State) : Host.Outcome State Fault Refusal := act crashInBand s

/-- CONTROL_PERIOD_START (R48). -/
def execControlPeriodStart (s : State) : Host.Outcome State Fault Refusal := act controlPeriod s

/-- PRESSURE_PERIOD (R60). -/
def execPressurePeriod (s : State) : Host.Outcome State Fault Refusal := act pressPeriod s

/-- HOUR_END (R76, R77, R79). -/
def execHourEnd (s : State) : Host.Outcome State Fault Refusal := act hourEnd s

end Sys2Proof.Machine
end

