-- ==== Sys2Proof/Machine/Frames.lean ====
section
/-! DEFINITION. The frame envelope bit by bit (R109, R110, R113), the payloads of the notices and reports (R200, R201),
and what a receiver reads from them. -/
namespace Sys2Proof.Machine
open Sys2Proof

/-- The kind codes of R112. -/
def kindPresence : BitVec 4 := 1
def kindClaim : BitVec 4 := 2
def kindExcursion : BitVec 4 := 3
def kindRequest : BitVec 4 := 4
def kindReply : BitVec 4 := 5
def kindPourReport : BitVec 4 := 6
def kindEventReport : BitVec 4 := 7

/-- R109, R112: the panel node's address and the broadcast destination. -/
def panelNode : BitVec 4 := 14
def broadcast : BitVec 4 := 15

/-- The bits from the arbitration field to the payload, over which the CRC runs (R109, R110). -/
def Frame.coveredBits (f : Frame) : List Bool :=
  natBits 3 f.priority.toNat ++ natBits 4 f.sender.toNat ++ natBits 4 f.dest.toNat ++ natBits 4 f.kind.toNat ++
    natBits 5 f.payload.length ++ byteBits f.payload

/-- The bits of a frame from its dominant start bit to its end field (R109); `true` is recessive. -/
def Frame.bits (f : Frame) : List Bool :=
  false :: f.coveredBits ++ natBits 16 (crcBits f.coveredBits).toNat ++ [true, true, true]

/-- What a receiver makes of the bits of a frame: an errored frame, or the frame (R113). -/
def byteOfBits (l : List Bool) : Byte := BitVec.ofNat 8 (bitsNat l)

/-- `n` bytes from bits. -/
def bytesOfBits : Nat → List Bool → List Byte
  | 0, _ => []
  | n + 1, l => byteOfBits (l.take 8) :: bytesOfBits n (l.drop 8)

/-- The bits of a frame after its start bit, checked (R113). -/
def receiveFields (l : List Bool) : Option Frame :=
  let len := bitsNat ((l.drop 15).take 5)
  let covered := l.take (20 + 8 * len)
  let rest := l.drop (20 + 8 * len)
  let kind : BitVec 4 := BitVec.ofNat 4 (bitsNat ((l.drop 11).take 4))
  let sender : BitVec 4 := BitVec.ofNat 4 (bitsNat ((l.drop 3).take 4))
  if l.length < 20 ∨ len > 16 then none
  else if rest.length ≠ 19 ∨ bitsNat (rest.take 16) ≠ (crcBits covered).toNat then none
  else if rest.drop 16 ≠ [true, true, true] then none
  else if kind = 0 ∨ 8 ≤ kind.toNat then none
  else if 8 ≤ sender.toNat ∧ sender.toNat ≤ 13 then none
  else some
    { priority := BitVec.ofNat 3 (bitsNat (l.take 3))
      sender := sender
      dest := BitVec.ofNat 4 (bitsNat ((l.drop 7).take 4))
      kind := kind
      payload := bytesOfBits len (covered.drop 20) }

/-- R113: a receiver takes a frame from its start bit. The frame dropped under a check is counted once as errored; one that
passes every check is received without error. A frame cut short fails the check it has not the bits for. -/
def receiveBits : List Bool → Option Frame
  | false :: l => receiveFields l
  | _ => none

/-- The length field of a received frame is above 16, where the receiver stops and waits for an idle (R113). -/
def lengthDrop : List Bool → Bool
  | false :: l => decide (20 ≤ l.length ∧ 16 < bitsNat ((l.drop 15).take 5))
  | _ => false

/-- PRESENCE (R200). -/
def PresNotice.payload (n : PresNotice) : List Byte :=
  [byte n.role.code, byte n.budgets.heat, byte n.budgets.chill, byte n.budgets.gas]

/-- R200: a PRESENCE of another length or with role code 3 reaches no block. -/
def readPresence (p : List Byte) : Option PresNotice :=
  if p.length = 4 then
    (Role.ofCode (at8 p 0 % 4)).map fun r => ⟨r, ⟨at8 p 1, at8 p 2, at8 p 3⟩⟩
  else none

/-- CLAIM (R200). An absent temperature's bytes are 0. -/
def ClaimNotice.payload (n : ClaimNotice) : List Byte :=
  [ byte (64 * n.role.code + 32 * b2n n.probeOk + 16 * b2n n.setpoint.isSome + 8 * b2n n.temp.isSome)
  , byte n.seq, byte n.claims.heat.demand, byte n.claims.chill.demand
  , byte (16 * n.claims.heat.cls.code + n.claims.chill.cls.code)
  , byte (128 * n.claims.gas.demand + n.claims.gas.cls.code) ]
  ++ be16i (n.temp.getD 0) ++ be16i (n.setpoint.getD 0) ++ [byte n.driveChill, byte n.driveHeat]

/-- R200, with the clamps of R88: demands to 0–40, 0–16 and 0–1, classes to 0–4. A temperature or setpoint is taken as
carried (log 50). -/
def readClaim (p : List Byte) : Option ClaimNotice :=
  if p.length = 12 then
    (Role.ofCode (at8 p 0 / 64)).map fun r =>
      { role := r
        seq := at8 p 1
        claims :=
          ⟨⟨min (at8 p 2) 40, Cls.ofCode (at8 p 4 / 16 % 8)⟩, ⟨min (at8 p 3) 16, Cls.ofCode (at8 p 4 % 8)⟩,
            ⟨b2n (atBit p 5 7), Cls.ofCode (at8 p 5 % 8)⟩⟩
        temp := if atBit p 0 3 then some (at16i p 6) else none
        probeOk := atBit p 0 5
        setpoint := if atBit p 0 4 then some (at16i p 8) else none
        driveChill := at8 p 10
        driveHeat := at8 p 11 }
  else none

/-- EXCURSION (R200). -/
def ExcNotice.payload (n : ExcNotice) : List Byte :=
  [byte (64 * n.role.code + n.state.code), byte (kindCode n.kind)]

/-- R200: another length, role code 3, station state code 3 or a kind above 9 reaches no block. -/
def readExcursion (p : List Byte) : Option ExcNotice :=
  if p.length = 2 then
    match Role.ofCode (at8 p 0 / 64), StationState.ofCode (at8 p 0 % 4), kindOfCode (at8 p 1) with
    | some r, some st, some k => some ⟨r, st, k⟩
    | _, _, _ => none
  else none

/-- POUR_REPORT (R201). -/
def PourReport.payload (r : PourReport) : List Byte :=
  [byte (16 * r.tag + r.kind.code)] ++ be16 r.requested ++ be16 r.delivered ++ be16 r.duration ++
    [byte r.outcome.code]

/-- The reply header of R201. -/
def replyHeader (code : Nat) (rc : ReplyCode) (idx count : Nat) : List Byte :=
  [byte code, byte rc.code, byte (16 * idx + (count - 1))]

end Sys2Proof.Machine
end

