-- ==== Sys2Proof/Machine/RollCall.lean ====
section
/-! DEFINITION. The peer view and the pair (R87 to R90, R105, R135, R136), the roll-call window (R131 to R133), and the
commands that are their own. -/
namespace Sys2Proof.Machine
open Sys2Proof

/-! ## The pair -/

/-- A lead stops running the vessel and recomputes at once as a single station (R56, R135). -/
def runSingle (s : Station) : Station :=
  progRecompute { s with prog.vessel := false, prog.driveC := 0, prog.driveH := 0 }

/-- A follower loses its lead (R58, R136). -/
def loseLead (s : Station) : Station :=
  let s := dropDrive s
  setFlag .pairLost { s with prog.pair := .orphan, prog.leadHeard := false }

/-- A lead's pair check at a notice from its partner's ID after the window (R135). -/
def leadHears (role : Role) (s : Station) : Station :=
  match s.prog.pair, s.prog.mismatch, role with
  | .leadUnpaired, false, .follower => { s with prog.pair := .leadPaired }
  | .leadUnpaired, false, _ => setFlag .pairMismatch { s with prog.mismatch := true }
  | .leadPaired, _, .follower => s
  | .leadPaired, _, _ =>
      runSingle (setFlag .pairMismatch { s with prog.mismatch := true, prog.pair := .leadUnpaired })
  | _, _, _ => s

/-- A follower's pair check at a notice from its lead's ID (R136). An ORPHAN that waits for its cycle start goes on waiting,
whatever role the notice carries (log 28). -/
def followerHears (role : Role) (s : Station) : Station :=
  if s.prog.pair = .following ∧ role ≠ .lead then loseLead s else s

/-- The pair check of a notice from `n` carrying `role`, after the window (R135, R136). -/
def pairHears (n : Nat) (role : Role) (s : Station) : Station :=
  if s.started && n == s.partnerId then
    match s.start.role with
    | .single => s
    | .lead => leadHears role s
    | .follower => followerHears role s
  else s

/-- The pair check with the check of R162, where it changed the setpoint (R136: as when the lead's entry goes ABSENT). -/
def pairChecked (n : Nat) (role : Role) : Station → Station := withSetpoint (pairHears n role)

/-- A follower hears a claim notice of its lead (R57, R58, R88): the drive and S are kept; an orphan's postings become 0 at
once and it waits for its next cycle start (log 28). -/
def leadClaim (n : Nat) (c : ClaimNotice) (s : Station) : Station :=
  if s.follower && n == s.partnerId && c.role == .lead then
    let s := { s with prog.lastS := c.setpoint.orElse fun _ => s.prog.lastS }
    let s := driveHeard c.driveChill c.driveHeat s
    if s.prog.pair = .orphan then
      postProgram {} {} { s with prog.leadHeard := true, prog.bayC := 0, prog.bayH := 0 }
    else s
  else s

/-! ## The peer view -/

/-- An entry put in the view in order of ID, in place of one of the same ID (R87). -/
def putPeer (e : Peer) : List Peer → List Peer
  | [] => [e]
  | a :: l => if e.id < a.id then e :: a :: l else if e.id = a.id then e :: l else a :: putPeer e l

/-- The view with an entry written. -/
def Station.withPeer (s : Station) (e : Peer) : Station := { s with pools.peers := putPeer e s.pools.peers }

/-- The entry for `n`, a fresh one where there is none (R88, R89). -/
def Station.entryFor (s : Station) (n : Nat) (role : Role) : Peer := (s.peer? n).getD { id := n, role := role }

/-- The entry after a claim notice (R88): a repeat makes it PRESENT with age 0 and changes nothing else. -/
def Peer.claimed (e : Peer) (c : ClaimNotice) : Peer :=
  if e.seq = some c.seq then { e with state := .present, age := 0 }
  else
    { e with
      role := c.role, seq := some c.seq, temp := c.temp, probeOk := c.probeOk, claims := c.claims
      state := .present, age := 0 }

/-- The entry after a presence notice (R89). -/
def Peer.started (e : Peer) (role : Role) : Peer :=
  { e with
    role := role, seq := none, temp := none, probeOk := false, claims := ⟨{}, {}, {}⟩, state := .present, age := 0 }

/-- The entry after an excursion notice (R89). -/
def Peer.excursed (e : Peer) (role : Role) : Peer := { e with role := role, state := .present, age := 0 }

/-- What a change of the peer view brings (R91, R97, R105): the hold of a follower, and every grant. A new ID under isolation
grants recomputes them (log 55). -/
def viewChanged (s : Station) : Station := regrant (reown s)

/-- A claim notice of another station (R88). A repeat hands neither drive nor S on, and its pair check reads the role that
the entry holds (log 28). -/
def hearClaim (n : Nat) (c : ClaimNotice) (s : Station) : Station :=
  let e := s.entryFor n c.role
  let repeated := e.seq == some c.seq
  let e' := e.claimed c
  let s := pairChecked n e'.role (viewChanged (s.withPeer e'))
  if repeated then s else withSetpoint (leadClaim n c) s

/-- R132: a lower budget heard before the window's end, clamped to its pool's range. -/
def lowerHeard (b : PerPool Nat) (s : Station) : Station :=
  let l := s.start.lowest
  { s with
    start.lowest :=
      ⟨min l.heat (clampNat 1 255 b.heat), min l.chill (clampNat 1 64 b.chill), min l.gas (clampNat 1 8 b.gas)⟩ }

/-- R86: a budget carried after the window lowers the adopted one of its pool, and the grant is recomputed, with the extra
notice of a raise that this brings (R97) and the decision of a change of GAS in-use (R60). -/
def adoptLower (p : Pool) (b : Nat) (s : Station) : Station :=
  if b < (s.item p).budget then
    setFlag .budgetReduced
      (gasDecided (askWhereRaised fun s => recompute p (s.setItem p { s.item p with budget := b })) s)
  else s

/-- The budgets of a presence notice (R86, R132). -/
def takeBudgets (b : PerPool Nat) (s : Station) : Station :=
  if s.started then
    adoptLower .gas (clampNat 1 8 b.gas) (adoptLower .chill (clampNat 1 64 b.chill)
      (adoptLower .heat (clampNat 1 255 b.heat) s))
  else lowerHeard b s

/-- A line of the peer excursion table written (R174). -/
def writePeerLine (n : Nat) (l : PeerLine) (s : Station) : Station := { s with exc.peers := s.exc.peers.set n l }

/-- A presence notice of another station (R86, R89, R174): the entry, the budgets, and then the recomputation, in the order of
R89, so that a grant goes from its old value to its new one with nothing between. -/
def hearPresence (n : Nat) (p : PresNotice) (s : Station) : Station :=
  let s := reown (s.withPeer ((s.entryFor n p.role).started p.role))
  pairChecked n p.role (regrant (takeBudgets p.budgets (writePeerLine n {} s)))

/-- An excursion notice of another station (R89, R174). -/
def hearExcursion (n : Nat) (x : ExcNotice) (s : Station) : Station :=
  let s := viewChanged (s.withPeer ((s.entryFor n x.role).excursed x.role))
  pairChecked n x.role (writePeerLine n ⟨x.state, x.kind⟩ s)

/-- An entry a notice interval older (R90). -/
def Peer.aged (e : Peer) : Peer :=
  let a := satAdd 255 e.age 1
  if a = 2 ∧ e.state = .present then { e with age := a, state := .silent }
  else if a = 4 ∧ e.state = .silent then { e with age := a, state := .absent, seq := none }
  else { e with age := a }

/-- The partner's entry has gone ABSENT (R56, R58). An ORPHAN that waited for its cycle start goes on as one (log 28). -/
def partnerGone (s : Station) : Station :=
  if s.started then
    match s.prog.pair with
    | .leadPaired => runSingle (setFlag .pairLost s)
    | .following => loseLead s
    | .orphan => { s with prog.leadHeard := false, prog.driveC := 0, prog.driveH := 0 }
    | _ => s
  else s

/-- The entries age at a boundary (R90): an entry that becomes ABSENT brings the recomputation of every pool, and then what
its pair does. -/
def ageEntries (s : Station) : Station :=
  let before := s.partnerHeard
  let s := viewChanged { s with pools.peers := s.pools.peers.map Peer.aged }
  if before && !s.partnerHeard then withSetpoint partnerGone s else s

/-! ## The window -/

/-- A presence notice in its slot (R131). -/
def placePresence (s : Station) : Station :=
  { s with
    link.pres := s.link.pres.place (s.link.tx == some .presence)
      { role := s.roleCarried, budgets := s.start.setup.budget }
    start.presAgain := false }

/-- PRESENCE_PLACEMENT (R131): in the window, once. -/
def presencePlacement (s : Station) : Station := if s.start.phase = .window ∧ !s.start.presSent then placePresence s else s

/-- A boundary of the notice interval clock (R90, R123, R131; log 30). -/
def boundary (s : Station) : Station :=
  if s.clockOn then
    let s := { s with link.muteIntervals := if s.link.mute then satAdd 255 s.link.muteIntervals 1 else 0 }
    let s := ageEntries s
    if s.start.phase = .window then
      let n := satAdd 4 s.start.boundaries 1
      let s := { s with start.boundaries := n }
      if s.start.presAgain && decide (n < 4) then placePresence s else s
    else s
  else s

/-- Step 1 of the window's end (R133): the lowest budgets are adopted. -/
def adoptBudgets (s : Station) : Station :=
  let l := s.start.lowest
  let b := s.start.setup.budget
  let it := s.pools.items
  regrant <|
    setFlagIf (decide (l.heat < b.heat ∨ l.chill < b.chill ∨ l.gas < b.gas)) .budgetReduced
      { s with
        pools.items :=
          ⟨{ it.heat with budget := l.heat }, { it.chill with budget := l.chill }, { it.gas with budget := l.gas }⟩ }

/-- Step 2 of the window's end (R133): the pair checks of R135 and R136. -/
def settlePair (s : Station) : Station :=
  match s.start.role with
  | .single => s
  | .lead =>
      match s.peer? s.partnerId with
      | none => setFlag .pairMissing { s with prog.pair := .leadUnpaired }
      | some e =>
          if e.role ≠ .follower then
            setFlag .pairMismatch { s with prog.pair := .leadUnpaired, prog.mismatch := true }
          else if e.state = .absent then setFlag .pairMissing { s with prog.pair := .leadUnpaired }
          else { s with prog.pair := .leadPaired }
  | .follower =>
      let orphan := { s with prog.pair := .orphan, prog.driveC := 0, prog.driveH := 0 }
      match s.peer? s.partnerId with
      | none => setFlag .pairMissing orphan
      | some e =>
          if e.role ≠ .lead then setFlag .pairMismatch orphan
          else if e.state = .absent then setFlag .pairMissing orphan
          else { s with prog.pair := .following }

/-- Step 3 of the window's end (R133): the presence slot is emptied; a frame of it on the line goes on (R116). -/
def emptyPresence (s : Station) : Station :=
  { s with
    link.presLeft := if s.link.tx = some .presence then s.link.pres.held.map (·.body) else none
    link.pres := {}
    start.presAgain := false }

/-- Step 4 of the window's end (R133): H clears in NORMAL; the control periods begin. -/
def clearH (s : Station) : Station :=
  { s with exc.h := if s.exc.state = .normal then false else s.exc.h, prog.cycleOn := true }

/-- The window's end (R133), its steps in order; the window is over with the last of them, so that the first control period
asks for no extra claim notice (R124; log 51). -/
def windowEnd (s : Station) : Station :=
  if s.start.phase = .window then
    let s := if s.start.boundaries < 4 then boundary s else s
    let s := controlPeriod (clearH (emptyPresence (withSetpoint settlePair (adoptBudgets s))))
    { s with start.phase := .running }
  else s

/-- PRESENCE_PLACEMENT (R131). -/
def execPresencePlacement (s : State) : Host.Outcome State Fault Refusal := act presencePlacement s

/-- ROLL_CALL_WINDOW_END (R133). -/
def execRollCallWindowEnd (s : State) : Host.Outcome State Fault Refusal := act windowEnd s

/-- NOTICE_INTERVAL_BOUNDARY (R90). -/
def execNoticeIntervalBoundary (s : State) : Host.Outcome State Fault Refusal := act boundary s

end Sys2Proof.Machine
end

