-- ==== Sys2Proof/Machine/Link.lean ====
section
/-! DEFINITION. The link unit's sending and receiving (R111 to R125), and the commands that are its own. -/
namespace Sys2Proof.Machine
open Sys2Proof

/-! ## Answers and their parts -/

/-- The bytes of an answer, within the 16 parts of R125. Of every item but STATUS the manual gives the contents and no
layout: the bytes are the free value of Config (log 10). -/
def Answer.bytes (a : Answer) : List Byte :=
  match a with
  | .status l => l.take 208
  | a => (Config.freeAnswerBytes a).take 208

/-- The answer of a reply; none has no bytes. -/
def ReplyEntry.bytes (e : ReplyEntry) : List Byte :=
  match e.answer with
  | none => []
  | some a => a.bytes

/-- The part count (R125). -/
def ReplyEntry.parts (e : ReplyEntry) : Nat := max 1 ((e.bytes.length + 12) / 13)

/-- The part sent next (R125, R201). -/
def ReplyEntry.payload (e : ReplyEntry) : List Byte :=
  replyHeader e.code e.rc e.next e.parts ++ (e.bytes.drop (13 * e.next)).take 13

/-! ## Offering -/

/-- The work that a pending restart waits for, the frame on the line apart, is done (R192): no new frame starts. -/
def Station.restartReady (s : Station) : Bool := s.req.restart == some .done && s.nv.setupWrite.isNone

/-- The holding whose frame is offered at an idle (R117); in MUTE the probe alone (R121). -/
def Station.offered (s : Station) : Option TxKind :=
  if s.link.mute then (if s.link.claim.held.isSome then some .claim else none)
  else if s.link.exc.held.isSome then some .excursion
  else if s.link.claim.held.isSome then some .claim
  else if s.link.pres.held.isSome then some .presence
  else if !s.link.replies.isEmpty then some .reply
  else if !s.link.reports.isEmpty then some .pourReport
  else if s.link.evt.held.isSome then some .event
  else none

/-- The line falls idle (R108, R113, R117). -/
def idleOffer (s : Station) : Station :=
  let s := { s with link.idleSeen := true }
  if s.link.tx.isNone && !s.restartReady then { s with link.tx := s.offered } else s

/-- What a frame received does: nothing before the first idle since the start (R108), and nothing from a length field above
16 to the next idle (R113). -/
def heard (f : Station → Station) (s : Station) : Station := if s.link.idleSeen then f s else s

/-- The priority of a kind (R112). -/
def TxKind.priority : TxKind → BitVec 3
  | .excursion => 0 | .claim => 1 | .presence => 2 | .reply => 4 | .pourReport => 5 | .event => 6

/-- The kind code of a frame sent (R112). -/
def TxKind.kind : TxKind → BitVec 4
  | .excursion => kindExcursion | .claim => kindClaim | .presence => kindPresence | .reply => kindReply
  | .pourReport => kindPourReport | .event => kindEventReport

/-- The destination of a frame sent (R112). -/
def TxKind.dest : TxKind → BitVec 4
  | .excursion | .claim | .presence => broadcast
  | .reply | .pourReport | .event => panelNode

/-- The payload held for a kind. -/
def Station.txPayload (s : Station) : TxKind → Option (List Byte)
  | .excursion => s.link.exc.held.map fun h => h.body.payload
  | .claim => s.link.claim.held.map fun h => h.body.payload
  | .presence => ((s.link.pres.held.map (·.body)).orElse fun _ => s.link.presLeft).map PresNotice.payload
  | .reply => s.link.replies.head?.map ReplyEntry.payload
  | .pourReport => s.link.reports.head?.map fun h => h.body.payload
  | .event => s.link.evt.held.map fun h => h.body.head

/-- The frame on the line (R109, R112), as its bits go out. -/
def Station.txFrame (s : Station) : Option Frame :=
  s.link.tx.bind fun k =>
    (s.txPayload k).map fun p =>
      { priority := k.priority, sender := BitVec.ofNat 4 s.start.id, dest := k.dest, kind := k.kind, payload := p }

/-! ## The ends of a send -/

/-- The line is free of the station's own frame. -/
def endTx (s : Station) : Station := { s with link.tx := none, link.presLeft := none }

/-- The send of an event report is over: no flag has joined since the placement of the next (R197). -/
def endReport (s : Station) : Station := { s with req.joined := 0 }

/-- A frame held aside takes its slot after a lost arbitration (R111, R116). -/
def arbLost (s : Station) : Station :=
  match s.link.tx with
  | none => s
  | some .excursion => endTx { s with link.exc := s.link.exc.lost }
  | some .claim => endTx { s with link.claim := s.link.claim.lost }
  | some .presence => endTx { s with link.pres := s.link.pres.lost }
  | some .event => endReport (endTx { s with link.evt := s.link.evt.lost })
  | some .reply | some .pourReport => endTx s

/-- A slot after a bit error (R116, R120), and whether its frame was dropped: a frame held aside takes the slot, else the
retry count rises, and a frame with three retries is dropped. -/
def Slot.failed {α : Type} (sl : Slot α) : Slot α × Bool :=
  match sl.aside, sl.held with
  | some a, _ => ({ held := some a }, false)
  | none, none => ({}, false)
  | none, some h => if 3 ≤ h.retries then ({}, true) else ({ held := some { h with retries := h.retries + 1 } }, false)

/-- MUTE is entered (R121): the claim slot emptied, a held extra request ended, LINK_MUTE asserted. -/
def enterMute (s : Station) : Station :=
  assertCond .linkMute
    { s with link.mute := true, link.claim := {}, link.extraHeld := false, link.muteIntervals := 0 }

/-- A drop counted (R120), and MUTE at the sixteenth in a row (R121). -/
def countDrop (dropped : Bool) (s : Station) : Station :=
  if dropped then
    let s :=
      { s with
        link.consec := satAdd 255 s.link.consec 1
        link.drops := satAdd Config.top16 s.link.drops 1 }
    if !s.link.mute && decide (Config.muteDrops ≤ s.link.consec) then enterMute s else s
  else s

/-- The head of the reply list after a bit error (R120, R125): a dropped part takes the whole entry. -/
def failReply : List ReplyEntry → List ReplyEntry × Bool
  | [] => ([], false)
  | e :: l => if 3 ≤ e.retries then (l, true) else ({ e with retries := e.retries + 1 } :: l, false)

/-- The oldest pour report after a bit error (R120). -/
def failReport : List (Held PourReport) → List (Held PourReport) × Bool
  | [] => ([], false)
  | h :: l => if 3 ≤ h.retries then (l, true) else ({ h with retries := h.retries + 1 } :: l, false)

/-- A bit error in a claim notice (R120): a raise that waits on the claim of a dropped one asks for an extra notice (R97). -/
def claimFailed (s : Station) : Station :=
  let r := s.link.claim.failed
  let s := countDrop r.2 { s with link.claim := r.1 }
  if r.2 then askExtra s else s

/-- A bit error (R120). A presence notice dropped in the window is placed again at the next boundary (R131). -/
def bitError (s : Station) : Station :=
  match s.link.tx with
  | none => s
  | some k =>
      let s := endTx s
      match k with
      | .excursion => let r := s.link.exc.failed; countDrop r.2 { s with link.exc := r.1 }
      | .claim => claimFailed s
      | .presence =>
          let r := s.link.pres.failed
          countDrop r.2
            { s with
              link.pres := r.1
              start.presAgain := s.start.presAgain || (r.2 && s.start.phase == .window) }
      | .event => let r := s.link.evt.failed; countDrop r.2 (endReport { s with link.evt := r.1 })
      | .reply => let r := failReply s.link.replies; countDrop r.2 { s with link.replies := r.1 }
      | .pourReport => let r := failReport s.link.reports; countDrop r.2 { s with link.reports := r.1 }

/-- A part of the head reply has been sent (R125). -/
def sentReply : List ReplyEntry → List ReplyEntry
  | [] => []
  | e :: l => if e.next + 1 < e.parts then { e with next := e.next + 1, retries := 0 } :: l else l

/-- The claims of a notice sent become the claims as last sent (R94, R120). -/
def claimsSent (c : ClaimNotice) (s : Station) : Station :=
  let it := s.pools.items
  { s with
    pools.items :=
      ⟨{ it.heat with lastSent := some c.claims.heat }, { it.chill with lastSent := some c.claims.chill },
        { it.gas with lastSent := some c.claims.gas }⟩ }

/-- A raise that a send leaves waiting on its claim asks for an extra notice (R97), where no notice with the present claims
waits unsent (log 17). -/
def askStillWaiting (s : Station) : Station := if s.claimWaits then s else askExtra s

/-- A claim notice has been sent (R120, R122): from MUTE it is the probe, and LINK_MUTE is withdrawn. -/
def sentClaim (s : Station) : Station :=
  let s :=
    match s.link.claim.held with
    | none => s
    | some h => claimsSent h.body s
  let s := { s with link.claim := s.link.claim.sent }
  askStillWaiting <|
    if s.link.mute then withdrawCond .linkMute { s with link.mute := false, link.muteIntervals := 0 } else s

/-- An event report has been sent (R197): the flags it carried leave the cause set, but for those that have joined since its
placement. -/
def sentEvent (s : Station) : Station :=
  endReport
    { s with
      req.cause :=
        match s.link.evt.held with
        | none => s.req.cause
        | some h => s.req.cause &&& ~~~(h.body.cause &&& ~~~s.req.joined)
      link.evt := s.link.evt.sent }

/-- A send succeeds (R120). What was sent is taken before the silence timer starts again and isolation ends (R98, R99;
log 59). -/
def sendDone (s : Station) : Station :=
  match s.link.tx with
  | none => s
  | some k =>
      let s := { endTx s with link.consec := 0 }
      linkAlive <|
        match k with
        | .excursion => { s with link.exc := s.link.exc.sent }
        | .claim => sentClaim s
        | .presence => { s with link.pres := s.link.pres.sent, start.presSent := true }
        | .event => sentEvent s
        | .reply => { s with link.replies := sentReply s.link.replies }
        | .pourReport => { s with link.reports := s.link.reports.drop 1 }

/-! ## Receiving -/

/-- A frame received (R113): counted, one dropped at its CRC or in its end field too (log 57), and handed to the health
unit; one without error restarts the silence timer and ends isolation (R98, R99), before its block takes it (log 59). -/
def countFrame (bad : Bool) (s : Station) : Station :=
  let s := windowFrame bad { s with link.rx := satAdd Config.top16 s.link.rx 1 }
  if bad then { s with link.errored := satAdd Config.top16 s.link.errored 1 } else linkAlive s

/-- A notice of another station with a payload its kind's layout accepts (R114, R200). -/
def takeClaim (n : Nat) (p : List Byte) (s : Station) : Station :=
  match readClaim p with
  | none => s
  | some c => hearClaim n c s

/-- As `takeClaim`, for PRESENCE. -/
def takePresence (n : Nat) (p : List Byte) (s : Station) : Station :=
  match readPresence p with
  | none => s
  | some c => hearPresence n c s

/-- As `takeClaim`, for EXCURSION. -/
def takeExcursion (n : Nat) (p : List Byte) (s : Station) : Station :=
  match readExcursion p with
  | none => s
  | some c => hearExcursion n c s

/-- A frame without error from sender `n`: with the station's own ID it is a conflict (R115), else `f` takes it, over a view
with isolation ended (log 59). -/
def fromSender (n : Nat) (f : Station → Station) (s : Station) : Station :=
  let s := countFrame false s
  if n = s.start.id then takeConflict s else f s

/-- CLAIM_NOTICE_RECEIVED (R88, R113, R114). -/
def execClaimNoticeReceived (sender : BitVec 3) (payload : List Byte) (s : State) : Host.Outcome State Fault Refusal :=
  act (heard (fromSender sender.toNat (takeClaim sender.toNat payload))) s

/-- PRESENCE_NOTICE_RECEIVED (R89, R113, R114). -/
def execPresenceNoticeReceived (sender : BitVec 3) (payload : List Byte) (s : State) :
    Host.Outcome State Fault Refusal :=
  act (heard (fromSender sender.toNat (takePresence sender.toNat payload))) s

/-- EXCURSION_NOTICE_RECEIVED (R174, R113, R114). -/
def execExcursionNoticeReceived (sender : BitVec 3) (payload : List Byte) (s : State) :
    Host.Outcome State Fault Refusal :=
  act (heard (fromSender sender.toNat (takeExcursion sender.toNat payload))) s

/-- LINE_IDLE_OFFER (R117). -/
def execLineIdleOffer (s : State) : Host.Outcome State Fault Refusal := act idleOffer s

/-- ARBITRATION_LOST (R111). -/
def execArbitrationLost (s : State) : Host.Outcome State Fault Refusal := act arbLost s

/-- SEND_BIT_ERROR (R120). -/
def execSendBitError (s : State) : Host.Outcome State Fault Refusal := act bitError s

/-- SEND_SUCCESS (R120). -/
def execSendSuccess (s : State) : Host.Outcome State Fault Refusal := act sendDone s

end Sys2Proof.Machine
end

