-- ==== Sys2Proof/Machine/Status.lean ====
section
/-! DEFINITION. The full station status (R199, R202) and what each query answers with (R190). Within a block's section the
mark bytes come first, then the values in the order of the block's status rule; what R202 leaves to be read from its words is
log entry 11. -/
namespace Sys2Proof.Machine
open Sys2Proof

/-- A section: its mark bytes, then its values (R202). -/
def statusSection (marks : List Bool) (values : List Byte) : List Byte := packMarks marks ++ values

/-- A value for each pool, HEAT, CHILL, GAS. -/
def PerPool.toList {α : Type} (x : PerPool α) : List α := [x.heat, x.chill, x.gas]

/-- R19. -/
def kegSection (s : Station) : List Byte :=
  statusSection [s.keg.commit.isSome]
    (be16 s.batchNumber ++ [byte s.recPhase.code] ++ be16 s.remaining ++ [byte s.keg.persist.code])

/-- R35. The two-valued states of the handle, the keg and A are mark bits (log 11). -/
def senseSection (s : Station) : List Byte :=
  statusSection [s.ceiling, s.sense.handle, s.sense.keg, s.sense.ackKeg, s.sense.chillRdy, s.sense.overdraw]
    (tempBytes s.tAvg ++ [byte s.sense.beer.state.code] ++ tempBytes s.jacketT ++ [byte s.sense.jacket.state.code]
      ++ be16 s.sense.p ++ be16 s.sense.pulses.toNat)

/-- The crash in-band time is given while a CRASH step is current (R59). -/
def Station.crashCurrent (s : Station) : Bool :=
  match s.keg.batch with
  | none => false
  | some b => b.step.kind == .crash

/-- R59. The whole minutes of the starvation timer and of the in-band time go out in two bytes, modulo 65,536 (log 49,
log 60); T of a FOLLOWING follower is its own T_avg (log 62). -/
def progSection (s : Station) : List Byte :=
  let c := s.pools.items.chill.posted
  let h := s.pools.items.heat.posted
  statusSection [s.prog.glycol, s.prog.heater, s.prog.gated, s.crashCurrent]
    (tempBytes s.setpoint ++ tempBytes s.controlT ++ [byte c.demand, byte h.demand, byte c.cls.code, byte h.cls.code]
      ++ be16 (s.prog.starveMs.getD 0 / 60000) ++ [byte s.prog.pair.code, byte s.prog.driveC, byte s.prog.driveH]
      ++ be16 (if s.crashCurrent then s.prog.inBandS / 60 else 0))

/-- R82. -/
def pressSection (s : Station) : List Byte :=
  let g := s.pools.items.gas.posted
  let m := match s.modeInForce with | none => 0 | some m => m.code
  statusSection
    [ s.modeInForce.isSome, s.target.isSome, s.press.carbLimited, s.press.vent, s.press.gas, s.press.bandReq
    , s.press.primReq, s.press.holdReq, s.exc.overpressure, s.press.wholeSpund, s.press.eqMark ]
    ([byte m] ++ be16 (s.target.getD 0) ++ [byte g.demand, byte g.cls.code] ++ be16 (s.press.gasTimer.getD 0)
      ++ be16 s.press.acc)

/-- A claim as one item of a section: its demand and its class (R106; log 11). -/
def Claim.bytes (c : Claim) : List Byte := [byte c.demand, byte c.cls.code]

/-- R106. Timers that do not run read 0, with no presence bits (log 11). -/
def poolSection (s : Station) : List Byte :=
  let it := s.pools.items.toList
  statusSection
    (it.map (·.lastSent.isSome) ++ it.map (·.level.isSome) ++ it.map (·.settleRuns)
      ++ [s.isoApplies, s.pools.overdrawHold, s.chillReq])
    (it.map (fun i => byte i.budget) ++ it.flatMap (fun i => i.own.bytes) ++ it.flatMap (fun i => (i.lastSent.getD {}).bytes)
      ++ it.map (fun i => byte i.grant) ++ it.map (fun i => byte i.inUse) ++ it.map (fun i => byte (i.level.getD 0))
      ++ it.flatMap (fun i => be16 (i.settleMs / 100)) ++ [byte (b2n s.pools.isolated)]
      ++ be16 (s.pools.backoffMs.getD 0 / 100) ++ [byte s.nKnown])

/-- R126. -/
def linkSection (s : Station) : List Byte :=
  statusSection
    [ s.link.mute, s.link.exc.held.isSome, s.link.claim.held.isSome, s.link.pres.held.isSome, s.link.evt.held.isSome
    , s.link.seq.isSome ]
    ([byte s.link.consec] ++ be16 s.link.rx ++ be16 s.link.errored ++ be16 s.link.drops ++ be16 s.link.overruns
      ++ [byte s.link.replies.length, byte s.link.reports.length, byte (s.link.seq.getD 0)])

/-- R139. The mismatch mark takes its bit on every role, with no presence bit, and the time left in a closed window reads 0
(log 11). -/
def rollSection (s : Station) : List Byte :=
  let windowOpen := s.start.phase == .window
  statusSection [windowOpen, s.start.presSent, s.exc.h, s.prog.mismatch, s.nv.setupWrite.isSome]
    ([byte s.start.id, byte s.start.pair, byte s.start.role.code]
      ++ be16 (if windowOpen then (Config.windowMs - s.start.windowMs) / 100 else 0)
      ++ [byte s.exc.state.code, byte s.prog.pair.code])

/-- R160. From its close on, in its drain window, a pour is no longer shown as the active one (log 66). -/
def pourSection (s : Station) : List Byte :=
  let a := match s.pour.active with
    | none => [0, 0, 0, 0]
    | some a => [byte a.tag, byte a.stage.code] ++ be16 a.delivered
  statusSection [s.pour.tap, s.pour.active.isSome, s.pour.drain.isSome, s.keg.tapLock, s.pour.freeze]
    (a ++ [byte s.queued.length, byte (b2n (!s.pour.serving))] ++ be16 s.coast ++ [byte s.pour.foamRun])

/-- The IDs a table reports in a state, one bit each (R174, R202). -/
def peersIn (st : StationState) (l : List PeerLine) : Byte := octet (l.map fun x => x.state == st).reverse

/-- R176. The clearance time left of a stopped timer reads 0 (log 65). -/
def excSection (s : Station) : List Byte :=
  let left := match s.exc.clearMs with | none => 0 | some t => (Config.clearanceMs - t) / 1000
  statusSection
    [ s.exc.h, s.exc.overtemp, s.exc.undertemp, s.exc.overpressure, s.exc.probeLost, s.exc.linkMute, s.exc.conflict
    , s.faultLine ]
    ([ byte s.exc.state.code, byte (kindCode s.exc.kind), byte (b2n (!s.exc.saved.run))
     , byte (b2n (!s.exc.saved.serving)) ]
      ++ be16 (s.exc.overS / 60) ++ be16 s.exc.underS ++ be16 left ++ be16 s.holdMinutes
      ++ [peersIn .safeHold s.exc.peers, peersIn .lockout s.exc.peers])

/-- R187. The test is one item that may be absent: its minutes and start pressure have no presence bits of their own
(log 11). -/
def healthSection (s : Station) : List Byte :=
  let t := match s.health.test with
    | none => [0, 0, 0, 0, 0, 0]
    | some t => be16 (t.ms / 60000) ++ be16 t.minutes ++ be16 t.startP
  statusSection [s.health.test.isSome]
    (t ++ [ byte s.health.newest, byte s.health.leak.state.code, byte s.health.chill.state.code
          , byte s.health.gasPerL.state.code, byte s.health.linkQ.state.code ])

/-- R199. The request in assembly is one item that may be absent: its code and index have no presence bits of their own
(log 11). -/
def reqSection (s : Station) : List Byte :=
  let a := match s.req.asm with
    | none => [0, 0]
    | some a => [byte a.code, byte a.next]
  statusSection [s.restartPending, s.req.asm.isSome]
    (FlagSet.bytes s.req.flags ++ FlagSet.bytes s.req.mask ++ FlagSet.bytes s.req.cause ++ a ++ be16 s.req.abandoned)

/-- The full station status: the head, then the sections in the order of R199's table. -/
def statusBytes (s : Station) : List Byte :=
  statusHead s ++ kegSection s ++ senseSection s ++ progSection s ++ pressSection s ++ poolSection s ++ linkSection s
    ++ rollSection s ++ pourSection s ++ excSection s ++ healthSection s ++ reqSection s

/-- The dispense queue as a query shows it (R160): the order in progress carries the stage and volume of its pour. A manual
pour is shown with start ON_HANDLE and no time limit (log 63). -/
def Station.queueLines (s : Station) : List QueueLine :=
  let line (o : Order) (st : Option Stage) (d : Nat) : QueueLine := ⟨o.tag, o.kind, o.volume, o.limit, o.start, st, d⟩
  match s.pour.active with
  | none => s.pour.queue.map fun o => line o none 0
  | some a =>
      if a.tag = 0 then
        ⟨0, .glass, 0, none, .onHandle, some a.stage, a.delivered⟩ :: s.pour.queue.map fun o => line o none 0
      else
        match s.pour.queue with
        | [] => []
        | o :: l => line o (some a.stage) a.delivered :: l.map fun o => line o none 0

/-- The fields of a batch that RECORD shows (R19, R190). -/
def Batch.shown (b : Batch) : BatchShown :=
  { number := b.number, phase := b.phase, fill := b.fill, remaining := b.remaining, total := b.total
    pours := b.pours, kegEmpty := b.kegEmpty, target := b.target, est := b.est, stepIdx := b.stepIdx
    stepMin := b.stepMin, rampStart := b.rampStart, run := b.run, programEnd := b.programEnd
    batchMin := b.batchMin }

/-- The calibration of a probe that HEALTH shows (R35). -/
def Probe.shown (p : Probe) (mode : CalMode) (trim : Nat) : ProbeShown :=
  { raw := p.raw, refFailed := p.refFailed, mode := mode, trim := trim, code := p.code }

/-- What a query answers with (R190). -/
def answerOf (s : Station) : QueryItem → Answer
  | .status => .status (statusBytes s)
  | .record =>
      if s.follower then .recordAbsent
      else .record (s.keg.batch.map Batch.shown) s.keg.tapLock s.keg.persist s.press.log
  | .profile => .profile (match s.keg.batch with | none => [] | some b => b.profile)
  | .faultLog => .faultLog s.exc.log.length s.exc.log
  | .testLog => .testLog s.health.newest s.health.log
  | .health =>
      .health
        [ (s.health.leak, Config.leakThreshold), (s.health.chill, Config.chillThreshold)
        , (s.health.gasPerL, Config.gasThreshold), (s.health.linkQ, Config.linkThreshold) ]
        (s.sense.beer.shown s.start.setup.beerMode s.start.setup.beerTrim)
        (s.sense.jacket.shown s.start.setup.jacketMode s.start.setup.jacketTrim) s.pools.overdraws
  | .peerView => .peerView s.nKnown s.pools.peers
  | .pourQueue => .pourQueue s.queueLines
  | .recentPours => .recentPours s.pour.recent

end Sys2Proof.Machine
end

