-- ==== Sys2Proof/Machine/Requests.lean ====
section
/-! DEFINITION. The request unit: taking a whole request (R118, R189), the verdict on each of the 21 requests, and their
commands. A verdict is given in the order of the request's own rule; a refusal leaves the station as it is. -/
namespace Sys2Proof.Machine
open Sys2Proof

/-- What is decided of a request: the reply code, a query's answer, and the station after. -/
structure Verdict where
  rc : ReplyCode
  answer : Option Answer := none
  after : Station
deriving DecidableEq, Repr

/-- A refusal (R189). -/
def refuse (rc : ReplyCode) (s : Station) : Verdict := { rc := rc, after := s }

/-- An acceptance with reply OK. -/
def accept (s : Station) : Verdict := { rc := .ok, after := s }

/-- The first refusal that holds, else the acceptance `f`. -/
def firstOf (s : Station) (f : Station → Station) : List (Bool × ReplyCode) → Verdict
  | [] => accept (f s)
  | (c, rc) :: l => if c then refuse rc s else firstOf s f l

/-- The requests a follower takes have the codes from WRITE_SETUP on (R189, R201). -/
def followerTakes (code : Nat) : Bool := decide (17 ≤ code)

/-- The checks ahead of a request's own list (R189, R192), its length and fields found right or not. -/
def common (code : Nat) (fits : Bool) (s : Station) : List (Bool × ReplyCode) :=
  [ (!fits, .badLength), (s.restartPending, .badState), (s.follower && !followerTakes code, .role) ]

/-! ## Steps and profiles in a request -/

/-- A step as its fields are taken (R38): clamped, the spund pressure kept on SPUND alone. -/
def Step.clamped (pr : Nat) (spund : Nat) (st : Step) : Step :=
  { st with
    target := clampInt (-20) 300 st.target
    duration := st.duration.map (clampNat 1 20160)
    threshold := st.threshold.map (clampNat 1 65535)
    spund := if st.mode = .spund then some (clampNat 10 pr spund) else none }

/-- The step at byte `i` of a request (R201), or none where a code names no kind or mode. -/
def readStep (pr : Nat) (l : List Byte) (i : Nat) : Option Step :=
  if (StepKind.ofCode (at8 l i / 64)).isNone || (PMode.ofCode (at8 l i / 4 % 4)).isNone then none
  else some ((stepAt l i).clamped pr (at16 l (i + 8)))

/-- A step that R38 does not refuse. -/
def Step.legal (st : Step) : Bool :=
  !(st.kind == .ramp && st.duration.isNone) && !(st.threshold.isSome && st.mode != .spund)

/-- The steps `0` to `n − 1` at byte `i` of a request, if all are readable. -/
def readSteps (pr : Nat) (l : List Byte) (i : Nat) : Nat → Option (List Step)
  | 0 => some []
  | n + 1 => (readStep pr l i).bind fun st => (readSteps pr l (i + 10) n).map (st :: ·)

/-- The profile of a START_BATCH, if R38 accepts it. -/
def readProfile (pr : Nat) (l : List Byte) : Option (List Step) :=
  let n := at8 l 6
  if n = 0 ∨ 12 < n then none
  else (readSteps pr l 7 n).bind fun p => if p.all Step.legal then some p else none

/-! ## The verdicts -/

/-- The batch that a START_BATCH starts (R4, R41). -/
def newBatch (s : Station) (a : List Byte) (p : List Step) : Batch :=
  let first := p.headD {}
  let fill := clampNat 5000 19000 (at16 a 2)
  { number := clampNat 1 65535 (at16 a 0)
    phase := first.tag
    fill := fill
    remaining := fill
    total := 0
    pours := 0
    kegEmpty := false
    target := clampNat 100 400 (at16 a 4)
    est := none
    profile := p
    stepIdx := 0
    stepMin := 0
    rampStart := match s.tAvg with
      | none => first.target
      | some t => if s.beerOk then clampInt (-20) 300 t else first.target
    run := true
    programEnd := false
    batchMin := 0 }

/-- START_BATCH (R4). -/
def judgeStartBatch (a : List Byte) (s : Station) : Verdict :=
  let p := readProfile s.start.setup.pr a
  firstOf s (fun s => startBatch (newBatch s a (p.getD [])) s) <|
    common 1 (decide (7 ≤ a.length ∧ a.length = 7 + 10 * at8 a 6)) s ++
      [ (s.inLockout, .lockout), (s.health.test.isSome, .busyTest), (s.keg.batch.isSome, .badState)
      , (!s.sense.keg, .noKeg), (p.isNone, .badProfile) ]

/-- The edit of the current step leaves what it may not change (R39). -/
def sameButSetting (new old : Step) : Bool :=
  new.kind == old.kind && new.tag == old.tag && new.threshold == old.threshold && new.mode == old.mode
    && new.spund == old.spund

/-- The BAD_STATE cases of EDIT_STEP (R39). -/
def editBarred (i : Nat) (new : Option Step) (s : Station) : Bool :=
  match s.keg.batch with
  | none => true
  | some b =>
      decide (b.profile.length ≤ i ∨ i < b.stepIdx) ||
        (i == b.stepIdx &&
          match new with
          | none => true
          | some st => !sameButSetting st b.step)

/-- The end check of an edited duration (R39): on the current step alone, with its duration changed; on a HOLD with a
threshold, which ends by R43, only while step time counts (log 34). -/
def editEnds (i : Nat) (st : Step) (b : Batch) (s : Station) : Bool :=
  i == b.stepIdx && st.duration != b.step.duration &&
    match s.keg.batch with
    | none => false
    | some b' => stepDue s.press.log b' && (!(st.kind == .hold && st.threshold.isSome) || s.stepTimeCounts)

/-- An accepted edit (R39). -/
def editStep (i : Nat) (st : Step) (s : Station) : Station :=
  match s.keg.batch with
  | none => s
  | some b =>
      withSetpoint
        (fun s =>
          let s := writeBatch (fun b => { b with profile := b.profile.set i st }) s
          stepEndIf (editEnds i st b s) s) s

/-- EDIT_STEP (R39). -/
def judgeEditStep (a : List Byte) (s : Station) : Verdict :=
  let i := at8 a 0
  let new := readStep s.start.setup.pr a 1
  firstOf s (editStep i (new.getD {})) <|
    common 2 (a.length == 11) s ++
      [ (editBarred i new s, .badState), (!(match new with | none => false | some st => st.legal), .badProfile) ]

/-- The program has ended, or there is no batch (R46). -/
def Station.noStepToEnd (s : Station) : Bool :=
  match s.keg.batch with
  | none => true
  | some b => b.programEnd

/-- ADVANCE_STEP (R46). -/
def judgeAdvanceStep (a : List Byte) (s : Station) : Verdict :=
  firstOf s stepEnd <| common 3 a.isEmpty s ++ [(s.inLockout, .lockout), (s.noStepToEnd, .badState)]

/-- RUN_PROGRAM (R47). -/
def judgeRunProgram (a : List Byte) (s : Station) : Verdict :=
  firstOf s (writeRun true) <|
    common 4 a.isEmpty s ++ [(s.inLockout, .lockout), (s.keg.batch.isNone || s.exc.h, .badState)]

/-- An accepted PAUSE_PROGRAM (R47): in SAFE_HOLD it writes the saved context. -/
def pauseProgram (s : Station) : Station :=
  if s.exc.state = .safeHold then { s with exc.saved := { s.exc.saved with run := false } } else writeRun false s

/-- PAUSE_PROGRAM (R47). -/
def judgePauseProgram (a : List Byte) (s : Station) : Verdict :=
  firstOf s pauseProgram <| common 5 a.isEmpty s ++ [(s.inLockout, .lockout), (s.keg.batch.isNone, .badState)]

/-- END_BATCH (R5, R158). -/
def judgeEndBatch (a : List Byte) (s : Station) : Verdict :=
  firstOf s (fun s => closeBatch false (endQueued .cancelled s)) <|
    common 6 a.isEmpty s ++
      [(s.health.test.isSome, .busyTest), (s.keg.batch.isNone || s.pourInProgress, .badState)]

/-- The order a POUR carries (R140, R141, R201). -/
def readOrder (a : List Byte) : Order :=
  let kind : OrderKind := if atBit a 1 7 then .sample else .glass
  { tag := at8 a 0
    kind := kind
    volume := match kind with | .glass => clampNat 50 1000 (at16 a 2) | .sample => clampNat 10 150 (at16 a 2)
    limit := if atBit a 1 5 then some (clampNat 5 120 (at8 a 4)) else none
    start := if atBit a 1 6 then .onHandle else .immediate }

/-- An order joins the queue, and the head is tested (R141, R142). -/
def joinQueue (o : Order) (s : Station) : Station := testHead { s with pour.queue := s.pour.queue ++ [o] }

/-- A tag is held by an order in the queue (R140). -/
def Station.tagHeld (s : Station) (t : Nat) : Bool := s.pour.queue.any fun o => o.tag == t

/-- POUR (R141). -/
def judgePour (a : List Byte) (s : Station) : Verdict :=
  let o := readOrder a
  firstOf s (joinQueue o) <|
    common 7 (a.length == 5 && decide (o.tag ≤ 15)) s ++
      [ (s.inLockout, .lockout), (s.keg.batch.isNone || (o.kind == .glass && s.recPhase != .serve), .badState)
      , (!s.sense.keg, .noKeg), (s.kegEmpty, .empty), (s.keg.tapLock, .locked)
      , (o.tag == 0 || s.tagHeld o.tag, .tagInUse), (decide (Config.queueEntries ≤ s.pour.queue.length), .queueFull) ]

/-- A manual pour is in progress (R145). -/
def Station.manualInProgress (s : Station) : Bool := s.pourInProgress && !s.orderInProgress

/-- The tag is that of the order being served (R154). -/
def Station.servesTag (s : Station) (t : Nat) : Bool :=
  match s.pour.active with
  | none => false
  | some a => a.tag == t

/-- A QUEUED order cancelled (R154). -/
def cancelQueued (t : Nat) (s : Station) : Station :=
  match s.pour.queue.find? fun o => o.tag == t with
  | none => s
  | some o => completeUnstarted .cancelled o { s with pour.queue := s.pour.queue.filter fun o => o.tag != t }

/-- An accepted CANCEL_POUR (R154). -/
def cancelPour (t : Nat) (s : Station) : Station := if s.servesTag t then closePour .cancelled s else cancelQueued t s

/-- CANCEL_POUR (R154). A tag byte above 15 is a tag that no order carries (log 64). -/
def judgeCancelPour (a : List Byte) (s : Station) : Verdict :=
  let t := at8 a 0
  firstOf s (cancelPour t) <|
    common 8 (a.length == 1) s ++ [(!s.tagHeld t && !(t == 0 && s.manualInProgress), .noSuchTag)]

/-- L sets or clears (R155): a change is a commit trigger, and setting it ends the queued orders. -/
def lockTap (l : Bool) (s : Station) : Station :=
  if s.keg.tapLock = l then s
  else
    let s := commitTrigger (writeTapLock l s)
    if l then endQueued .locked s else s

/-- LOCK_TAP (R155). -/
def judgeLockTap (a : List Byte) (s : Station) : Verdict :=
  firstOf s (lockTap true) <| common 9 a.isEmpty s ++ [(s.pour.freeze, .frozen)]

/-- UNLOCK_TAP (R155). -/
def judgeUnlockTap (a : List Byte) (s : Station) : Verdict :=
  firstOf s (lockTap false) <| common 10 a.isEmpty s ++ [(s.pour.freeze, .frozen)]

/-- FREEZE_TAP (R156). -/
def judgeFreezeTap (a : List Byte) (s : Station) : Verdict :=
  firstOf s (fun s => { s with pour.freeze := true }) (common 11 a.isEmpty s)

/-- The active kind is a condition that stands asserted (R170). -/
def Station.activeStands (s : Station) : Bool :=
  match s.exc.kind with
  | none => false
  | some k => s.stands k

/-- RESUME (R170). -/
def judgeResume (a : List Byte) (s : Station) : Verdict :=
  firstOf s resumeStation <|
    common 12 a.isEmpty s ++
      [ (s.inLockout, .lockout), (s.exc.state == .normal || s.exc.conflict || s.activeStands, .badState)
      , (s.exc.kind == some .kegLost && !s.sense.keg, .noKeg) ]

/-- RELEASE_LOCKOUT (R172). -/
def judgeReleaseLockout (a : List Byte) (s : Station) : Verdict :=
  firstOf s releaseStation <|
    common 13 a.isEmpty s ++
      [ (!s.inLockout || s.start.phase == .window || s.exc.conflict, .badState)
      , (s.keg.batch.isSome && !s.sense.keg, .noKeg) ]

/-- LEAK_TEST (R182). -/
def judgeLeakTest (a : List Byte) (s : Station) : Verdict :=
  firstOf s (startTest (clampNat 5 60 (at8 a 0))) <|
    common 14 (a.length == 1) s ++
      [ (s.inLockout, .lockout), (s.health.test.isSome, .busyTest), (!s.sense.keg, .noKeg)
      , (s.exc.state == .safeHold || s.exc.h || s.keg.batch.isNone || s.holdsPour || decide (s.sense.p < 50)
          || s.tAvg.isNone || !s.beerOk, .badState) ]

/-- ABORT_TEST (R185). -/
def judgeAbortTest (a : List Byte) (s : Station) : Verdict :=
  firstOf s (endTestEarly .aborted) <| common 15 a.isEmpty s ++ [(s.health.test.isNone, .badState)]

/-- COMMIT (R9). -/
def judgeCommit (a : List Byte) (s : Station) : Verdict := firstOf s commitTrigger (common 16 a.isEmpty s)

/-- WRITE_SETUP (R129, R191): the contents go out first and the CRC last, so the block's CRC fails until then (log 14). -/
def judgeWriteSetup (a : List Byte) (s : Station) : Verdict :=
  firstOf s (fun s => { s with nv.setupWrite := some a, nv.setupBlock := invalidate 17 s.nv.setupBlock }) <|
    common 17 (a.length == 17) s ++ [(s.nv.setupWrite.isSome, .badState)]

/-- QUERY (R190): taken also while a restart is pending, and it changes nothing. -/
def judgeQuery (a : List Byte) (s : Station) : Verdict :=
  match QueryItem.ofCode (at8 a 0) with
  | none => refuse .badLength s
  | some q => if a.length = 1 then { rc := .ok, answer := some (answerOf s q), after := s } else refuse .badLength s

/-- An accepted CLEAR_EVENTS (R33, R196). -/
def clearEvents (f : FlagSet) (s : Station) : Station :=
  { s with
    req.flags := s.req.flags &&& ~~~f
    sense.ackKeg := if f.getLsbD Flag.kegChanged.pos then s.sense.keg else s.sense.ackKeg }

/-- CLEAR_EVENTS (R196). -/
def judgeClearEvents (a : List Byte) (s : Station) : Verdict :=
  firstOf s (clearEvents (flagsAt a 0)) (common 19 (a.length == 3) s)

/-- SET_REPORT_MASK (R195). -/
def judgeSetReportMask (a : List Byte) (s : Station) : Verdict :=
  firstOf s (fun s => { s with req.mask := flagsAt a 0 }) (common 20 (a.length == 3) s)

/-- The image work of an accepted RESTART (R17): none on a follower; else the commit in flight, then one commit of what is
not in the image. -/
def beginImageWork (s : Station) : Station :=
  if s.follower then { s with req.restart := some .done }
  else if s.keg.commit.isSome then { s with keg.pendingMark := true }
  else if s.keg.persist.uncommitted then startCommit { s with req.restart := some .final }
  else { s with req.restart := some .done }

/-- An accepted RESTART (R192): the mark, the queued orders, the test, and the image work, in that order. -/
def acceptRestart (s : Station) : Station :=
  beginImageWork (endTestEarly .aborted (endQueued .restarted { s with req.restart := some .waitFirst }))

/-- RESTART (R192). -/
def judgeRestart (a : List Byte) (s : Station) : Verdict :=
  firstOf s acceptRestart <| common 21 a.isEmpty s ++ [(s.holdsPour, .badState)]

/-! ## Taking a request -/

/-- The verdict on a whole request (R189, R201); a code that names no request is refused with BAD_LENGTH. -/
def judge (code : Nat) (a : List Byte) : Station → Verdict :=
  match code with
  | 1 => judgeStartBatch a
  | 2 => judgeEditStep a
  | 3 => judgeAdvanceStep a
  | 4 => judgeRunProgram a
  | 5 => judgePauseProgram a
  | 6 => judgeEndBatch a
  | 7 => judgePour a
  | 8 => judgeCancelPour a
  | 9 => judgeLockTap a
  | 10 => judgeUnlockTap a
  | 11 => judgeFreezeTap a
  | 12 => judgeResume a
  | 13 => judgeReleaseLockout a
  | 14 => judgeLeakTest a
  | 15 => judgeAbortTest a
  | 16 => judgeCommit a
  | 17 => judgeWriteSetup a
  | 18 => judgeQuery a
  | 19 => judgeClearEvents a
  | 20 => judgeSetReportMask a
  | 21 => judgeRestart a
  | _ => refuse .badLength

/-- An entry of the reply list is reserved at its end (R118). -/
def reserveEntry (code : Nat) (s : Station) : Station :=
  { s with link.replies := s.link.replies ++ [{ code := code }] }

/-- The reserved entry is filled (R118, R189). -/
def fillEntry (code : Nat) (v : Verdict) : Station :=
  { v.after with
    link.replies := v.after.link.replies.dropLast ++ [{ code := code, rc := v.rc, answer := v.answer }] }

/-- A request not taken is counted (R118, R130). -/
def overrun (s : Station) : Station := { s with link.overruns := satAdd Config.top16 s.link.overruns 1 }

/-- The free-entry test of R118, and the request taken by `j`. Before step 4 of the start has completed a request is
discarded and counted (R130). -/
def takeRequest (code : Nat) (j : Station → Verdict) (s : Station) : Station :=
  if !s.keg.loaded || decide (Config.listEntries ≤ s.link.replies.length) then overrun s
  else fillEntry code (j (reserveEntry code s))

/-! ## The assembly -/

/-- An assembly in progress is abandoned (R188). -/
def abandon (s : Station) : Station :=
  match s.req.asm with
  | none => s
  | some _ => { s with req.asm := none, req.abandoned := satAdd Config.top16 s.req.abandoned 1 }

/-- A part that goes on with the assembly (R188). -/
def continuePart (code idx count : Nat) (args : List Byte) (s : Station) : Station :=
  match s.req.asm with
  | none => s
  | some a =>
      if code = a.code ∧ count = a.count ∧ idx = a.next then
        if idx + 1 = count then takeRequest code (judge code (a.args ++ args)) { s with req.asm := none }
        else { s with req.asm := some { a with next := idx + 1, args := a.args ++ args } }
      else abandon s

/-- A part delivered to the assembly (R188, R201). -/
def takePart (p : List Byte) (s : Station) : Station :=
  let code := at8 p 0
  let idx := at8 p 1
  let count := at8 p 2
  let args := p.drop 3
  if p.length < 3 ∨ count = 0 ∨ 16 < count then abandon s
  else if idx = 0 ∧ count = 1 then takeRequest code (judge code args) (abandon s)
  else if idx = 0 then { abandon s with req.asm := some { code := code, count := count, next := 1, args := args } }
  else continuePart code idx count args s

/-- A part received (R114, R130, R188): before step 4 has completed it is discarded and counted. -/
def requestPart (p : List Byte) (s : Station) : Station := if s.keg.loaded then takePart p s else overrun s

/-- REQUEST_PART_RECEIVED (R113, R114, R188). -/
def execRequestPartReceived (payload : List Byte) (s : State) : Host.Outcome State Fault Refusal :=
  act (heard fun s => requestPart payload (countFrame false s)) s

/-- What a frame without error is delivered to (R114, R115). -/
def deliver (f : Frame) (s : Station) : Station :=
  let n := f.sender.toNat
  if n = s.start.id then takeConflict s
  else if n < 8 then
    if f.kind = kindClaim then takeClaim n f.payload s
    else if f.kind = kindPresence then takePresence n f.payload s
    else if f.kind = kindExcursion then takeExcursion n f.payload s
    else s
  else if f.sender = panelNode ∧ f.kind = kindRequest ∧ f.dest.toNat = s.start.id then requestPart f.payload s
  else s

/-- A frame taken bit by bit (R113 to R115): one in error is counted, and after a length field above 16 the receiver waits for
an idle; any other is delivered, after it has ended isolation (log 59). -/
def takeFrame (bits : List Bool) (s : Station) : Station :=
  match receiveBits bits with
  | none => countFrame true { s with link.idleSeen := s.link.idleSeen && !lengthDrop bits }
  | some f => deliver f (countFrame false s)

/-- FRAME_RECEIVED (R113 to R115). -/
def execFrameReceived (bits : List Bool) (s : State) : Host.Outcome State Fault Refusal := act (heard (takeFrame bits)) s

/-- START_BATCH (R4). -/
def execStartBatch (a : List Byte) (s : State) : Host.Outcome State Fault Refusal := act (takeRequest 1 (judgeStartBatch a)) s

/-- EDIT_STEP (R39). -/
def execEditStep (a : List Byte) (s : State) : Host.Outcome State Fault Refusal := act (takeRequest 2 (judgeEditStep a)) s

/-- ADVANCE_STEP (R46). -/
def execAdvanceStep (a : List Byte) (s : State) : Host.Outcome State Fault Refusal :=
  act (takeRequest 3 (judgeAdvanceStep a)) s

/-- RUN_PROGRAM (R47). -/
def execRunProgram (a : List Byte) (s : State) : Host.Outcome State Fault Refusal := act (takeRequest 4 (judgeRunProgram a)) s

/-- PAUSE_PROGRAM (R47). -/
def execPauseProgram (a : List Byte) (s : State) : Host.Outcome State Fault Refusal :=
  act (takeRequest 5 (judgePauseProgram a)) s

/-- END_BATCH (R5). -/
def execEndBatch (a : List Byte) (s : State) : Host.Outcome State Fault Refusal := act (takeRequest 6 (judgeEndBatch a)) s

/-- POUR (R141). -/
def execPour (a : List Byte) (s : State) : Host.Outcome State Fault Refusal := act (takeRequest 7 (judgePour a)) s

/-- CANCEL_POUR (R154). -/
def execCancelPour (a : List Byte) (s : State) : Host.Outcome State Fault Refusal := act (takeRequest 8 (judgeCancelPour a)) s

/-- LOCK_TAP (R155). -/
def execLockTap (a : List Byte) (s : State) : Host.Outcome State Fault Refusal := act (takeRequest 9 (judgeLockTap a)) s

/-- UNLOCK_TAP (R155). -/
def execUnlockTap (a : List Byte) (s : State) : Host.Outcome State Fault Refusal := act (takeRequest 10 (judgeUnlockTap a)) s

/-- FREEZE_TAP (R156). -/
def execFreezeTap (a : List Byte) (s : State) : Host.Outcome State Fault Refusal := act (takeRequest 11 (judgeFreezeTap a)) s

/-- RESUME (R170). -/
def execResume (a : List Byte) (s : State) : Host.Outcome State Fault Refusal := act (takeRequest 12 (judgeResume a)) s

/-- RELEASE_LOCKOUT (R172). -/
def execReleaseLockout (a : List Byte) (s : State) : Host.Outcome State Fault Refusal :=
  act (takeRequest 13 (judgeReleaseLockout a)) s

/-- LEAK_TEST (R182). -/
def execLeakTest (a : List Byte) (s : State) : Host.Outcome State Fault Refusal := act (takeRequest 14 (judgeLeakTest a)) s

/-- ABORT_TEST (R185). -/
def execAbortTest (a : List Byte) (s : State) : Host.Outcome State Fault Refusal := act (takeRequest 15 (judgeAbortTest a)) s

/-- COMMIT (R9). -/
def execCommit (a : List Byte) (s : State) : Host.Outcome State Fault Refusal := act (takeRequest 16 (judgeCommit a)) s

/-- WRITE_SETUP (R191). -/
def execWriteSetup (a : List Byte) (s : State) : Host.Outcome State Fault Refusal := act (takeRequest 17 (judgeWriteSetup a)) s

/-- QUERY (R190). -/
def execQuery (a : List Byte) (s : State) : Host.Outcome State Fault Refusal := act (takeRequest 18 (judgeQuery a)) s

/-- CLEAR_EVENTS (R196). -/
def execClearEvents (a : List Byte) (s : State) : Host.Outcome State Fault Refusal :=
  act (takeRequest 19 (judgeClearEvents a)) s

/-- SET_REPORT_MASK (R195). -/
def execSetReportMask (a : List Byte) (s : State) : Host.Outcome State Fault Refusal :=
  act (takeRequest 20 (judgeSetReportMask a)) s

/-- RESTART (R192). -/
def execRestart (a : List Byte) (s : State) : Host.Outcome State Fault Refusal := act (takeRequest 21 (judgeRestart a)) s

end Sys2Proof.Machine
end

