-- ==== Sys2Proof/Machine/StartUp.lean ====
section
/-! DEFINITION. The start sequence (R127 to R131), what each kind of start keeps (R192, R193), the loss of the supply (R16),
and their commands. -/
namespace Sys2Proof.Machine
open Sys2Proof

/-- The role that the straps settle, and the flag of step 1 (R128). -/
def settleRole (id : BitVec 3) (pair : BitVec 2) : Role × Option Flag :=
  match pair with
  | 0 => (.single, none)
  | 1 => if id = 7 then (.single, some .pairMismatch) else (.lead, none)
  | 2 => if id = 0 then (.single, some .pairMismatch) else (.follower, none)
  | 3 => (.single, some .pairStrap)

/-- A station at the beginning of step 1, from the straps and raw levels and what nonvolatile memory holds (R18, R36, R59,
R83, R107, R126, R127, R128, R139, R159, R176, R187, R199). The record, its tap lock and state, the codes and the
reference-failed marks read as log 12 says until steps 3 and 4. -/
def freshStation (nv : Nv) (p : Pins) : Station :=
  { nv := { nv with setupWrite := none }
    start := { id := p.id.toNat, pair := p.pair.toNat, role := (settleRole p.id p.pair).1 }
    sense :=
      { handle := p.handle, keg := p.keg, ackKeg := p.keg, chillRdy := p.chillRdy, overdraw := p.overdraw }
    prog := { starveMs := if p.chillRdy then none else some 0 }
    pools := { overdrawHold := p.overdraw } }

/-- The flag of step 1, set under the mask as it stands after the start (R127, R128). -/
def strapFlag (p : Pins) (s : Station) : Station :=
  match (settleRole p.id p.pair).2 with
  | none => s
  | some f => setFlag f s

/-- A power-on or pin reset begins step 1 (R127). -/
def coldStart (p : Pins) (s : Station) : Station := strapFlag p (freshStation s.nv p)

/-- What a restart keeps (R193). -/
def kept (old s : Station) : Station :=
  { s with
    exc.log := old.exc.log
    health.log := old.health.log
    health.newest := old.health.newest
    health.leak.worst := old.health.leak.worst
    health.chill.worst := old.health.chill.worst
    health.gasPerL.worst := old.health.gasPerL.worst
    health.linkQ.worst := old.health.linkQ.worst
    pools.overdraws := old.pools.overdraws
    pour.recent := old.pour.recent
    req.mask := old.req.mask }

/-- A pending restart begins step 1 (R192) once the image work, a setup write in flight and a frame being driven are done. -/
def restartBegin (p : Pins) (s : Station) : Station :=
  if s.restartReady && s.link.tx.isNone then strapFlag p (kept s (freshStation s.nv p)) else s

/-- The code in use (R22). -/
def codeInUse (m : CalMode) (trim raw : Nat) : Nat :=
  match m with
  | .auto => raw
  | .fixed => trim
  | .less => raw - trim
  | .more => min 31 (raw + trim)

/-- A probe after the reference check (R21), sampling begun (R24). -/
def Probe.checked (p : Probe) (raw : Option (BitVec 5)) : Probe :=
  { p with
    raw := match raw with | none => 16 | some c => c.toNat
    refFailed := raw.isNone
    holdMs := some 0 }

/-- Step 2 is over (R21): raw codes, and sampling begins. -/
def applyReference (beer jacket : Option (BitVec 5)) (s : Station) : Station :=
  { s with
    sense.beer := s.sense.beer.checked beer
    sense.jacket := s.sense.jacket.checked jacket
    sense.sampling := true }

/-- The settings taken (R129), with the codes in use (R22), the budgets (R86) and the lowest heard so far (R130, R132). -/
def useSetup (u : Setup) (s : Station) : Station :=
  let b := u.budget
  let l := s.start.lowest
  let it := s.pools.items
  { s with
    start.setup := u
    start.lowest := ⟨min b.heat l.heat, min b.chill l.chill, min b.gas l.gas⟩
    sense.beer.code := codeInUse u.beerMode u.beerTrim s.sense.beer.raw
    sense.jacket.code := codeInUse u.jacketMode u.jacketTrim s.sense.jacket.raw
    pools.items :=
      ⟨{ it.heat with budget := b.heat }, { it.chill with budget := b.chill }, { it.gas with budget := b.gas }⟩ }

/-- Step 3 (R129). -/
def applySetup (s : Station) : Station :=
  match readSetup s.nv.setupBlock with
  | some u => useSetup u s
  | none => setFlag .setupDefaulted (useSetup {} s)

/-- Step 4 (R13, R15): a follower does not read the image. After the load no commit is in flight, the marks are clear, the
commit timer is stopped and the seconds count is 0. -/
def loadRecord (s : Station) : Station :=
  let s := { s with keg := { loaded := true }, press.on := true, press.wholeSpund := true, press.eqMark := true }
  if s.follower then s
  else
    match loadImage s.nv.image with
    | none => setFlag .recordLost s
    | some r =>
        { s with
          keg.batch := r.batch
          keg.tapLock := r.tapLock
          keg.persist := if r.batch.isSome then .clean else .off }

/-- Step 5 (R131): the window opens, with the notice interval clock and the silence timer (R98, R123). -/
def openWindow (s : Station) : Station :=
  { s with
    start.phase := .window
    start.windowMs := 0
    start.boundaries := 0
    pools.silenceMs := some Config.silenceMs }

/-- The reference check is over: steps 3 to 5 follow in the event (R127), and with the record loaded the first pressure
period begins (R60). -/
def referenceDone (beer jacket : Option (BitVec 5)) (s : Station) : Station :=
  if s.start.phase = .checking then
    openWindow (pressPeriod (withSetpoint loadRecord (applySetup (applyReference beer jacket s))))
  else s

/-- The part without its supply: nonvolatile memory alone holds (R16). -/
def unpowered (nv : Nv) : Station := { nv := { nv with setupWrite := none }, start := { phase := .off } }

/-- POWER_ON (R127): the supply comes to a part that has none, or a power-on anew. -/
def execPowerOn (p : Pins) (s : State) : Host.Outcome State Fault Refusal := .next (s.on (coldStart p))

/-- PIN_RESET (R16, R127). -/
def execPinReset (p : Pins) (s : State) : Host.Outcome State Fault Refusal := act (coldStart p) s

/-- RESTART_BEGIN (R192, R193). -/
def execRestartBegin (p : Pins) (s : State) : Host.Outcome State Fault Refusal := act (restartBegin p) s

/-- REFERENCE_CHECK_DONE (R21, R127). -/
def execReferenceCheckDone (beer jacket : Option (BitVec 5)) (s : State) : Host.Outcome State Fault Refusal :=
  act (referenceDone beer jacket) s

/-- POWER_LOSS (R16). -/
def execPowerLoss (s : State) : Host.Outcome State Fault Refusal := .next (s.on fun s => unpowered s.nv)

end Sys2Proof.Machine
end

