-- ==== Sys2Proof/Machine/Clock.lean ====
section
/-! DEFINITION. The block's clock: one millisecond with no command waiting (log 2). Running timers advance and hold at
their ends; that a timer has run out is a command of its own. -/
namespace Sys2Proof.Machine
open Sys2Proof

/-- A timer that counts up, one ms further, holding at `top`. -/
def upTo (top : Nat) (t : Option Nat) : Option Nat := t.map fun n => satAdd top n 1

/-- A timer that counts down, one ms further, holding at 0. -/
def down (t : Option Nat) : Option Nat := t.map fun n => n - 1

/-- A probe's hold timer (R24). -/
def Probe.tick (p : Probe) : Probe := { p with holdMs := upTo Config.probeHoldMs p.holdMs }

/-- A settle timer, which runs or waits (R94). -/
def PoolItem.tick (it : PoolItem) : PoolItem := if it.settleRuns then { it with settleMs := it.settleMs - 1 } else it

/-- The active pour's time, and its stage timer in PRIMING and PAUSED (R146, R147, R149). -/
def ActivePour.tick (a : ActivePour) : ActivePour :=
  { a with
    ms := satAdd (a.limitS * 1000) a.ms 1
    stageMs :=
      match a.stage with
      | .priming => satAdd Config.primingMs a.stageMs 1
      | .paused => satAdd Config.pauseMs a.stageMs 1
      | .active => a.stageMs }

/-- A drain window's time left (R151). -/
def DrainPour.tick (d : DrainPour) : DrainPour := { d with leftMs := d.leftMs - 1 }

/-- A leak test's time (R183). -/
def LeakTest.tick (t : LeakTest) : LeakTest := { t with ms := satAdd (t.minutes * 60000) t.ms 1 }

/-- The millisecond timers. The starvation timer has no stated top and holds at 2^32 − 1 ms (log 49). -/
def tickMs (s : Station) : Station :=
  { s with
    start.windowMs := if s.start.phase = .window then satAdd Config.windowMs s.start.windowMs 1 else s.start.windowMs
    sense.beer := s.sense.beer.tick
    sense.jacket := s.sense.jacket.tick
    keg.timerMs := down s.keg.timerMs
    prog.starveMs := upTo Config.top32 s.prog.starveMs
    pools.items := s.pools.items.map PoolItem.tick
    pools.silenceMs := down s.pools.silenceMs
    pools.backoffMs := down s.pools.backoffMs
    link.spacingMs := down s.link.spacingMs
    pour.active := s.pour.active.map ActivePour.tick
    pour.drain := s.pour.drain.map DrainPour.tick
    exc.clearMs := upTo Config.clearanceMs s.exc.clearMs
    exc.holdMs := upTo Config.top32 s.exc.holdMs
    health.test := s.health.test.map LeakTest.tick }

/-- The seconds counts of R7 and R42, holding at 59. -/
def tickSecond (s : Station) : Station :=
  { s with
    subMs := 0
    keg.secs := if s.keg.batch.isSome && !s.exc.h then satAdd 59 s.keg.secs 1 else s.keg.secs
    prog.secs := if s.stepTimeCounts then satAdd 59 s.prog.secs 1 else s.prog.secs }

/-- One millisecond: the valve cycle goes on with the outputs as they are. -/
def tickStation (s : Station) : Station :=
  let s := tickMs (cycleReaches (min Config.cycleMs (s.prog.cycleMs + 1)) s)
  if s.subMs + 1 < 1000 then { s with subMs := s.subMs + 1 } else tickSecond s

/-- The tick; a part without supply has no clock. -/
def tick (s : State) : State := if s.station.powered then s.on tickStation else s

end Sys2Proof.Machine
end

