-- ==== Sys2Proof/Machine/Dispatch.lean ====
section
/-! DEFINITION. One arm per command, each one direct call of its meaning. -/
namespace Sys2Proof.Machine
open Sys2Proof

/-- The effect of a command on everything but the queue. -/
def exec (i : Instr) (s : State) : Host.Outcome State Fault Refusal :=
  match i with
  | .powerOn p => Sys2Proof.Machine.execPowerOn p s
  | .pinReset p => Sys2Proof.Machine.execPinReset p s
  | .restartBegin p => Sys2Proof.Machine.execRestartBegin p s
  | .referenceCheckDone b j => Sys2Proof.Machine.execReferenceCheckDone b j s
  | .presencePlacement => Sys2Proof.Machine.execPresencePlacement s
  | .rollCallWindowEnd => Sys2Proof.Machine.execRollCallWindowEnd s
  | .startBatch a => Sys2Proof.Machine.execStartBatch a s
  | .editStep a => Sys2Proof.Machine.execEditStep a s
  | .advanceStep a => Sys2Proof.Machine.execAdvanceStep a s
  | .runProgram a => Sys2Proof.Machine.execRunProgram a s
  | .pauseProgram a => Sys2Proof.Machine.execPauseProgram a s
  | .endBatch a => Sys2Proof.Machine.execEndBatch a s
  | .pour a => Sys2Proof.Machine.execPour a s
  | .cancelPour a => Sys2Proof.Machine.execCancelPour a s
  | .lockTap a => Sys2Proof.Machine.execLockTap a s
  | .unlockTap a => Sys2Proof.Machine.execUnlockTap a s
  | .freezeTap a => Sys2Proof.Machine.execFreezeTap a s
  | .resume a => Sys2Proof.Machine.execResume a s
  | .releaseLockout a => Sys2Proof.Machine.execReleaseLockout a s
  | .leakTest a => Sys2Proof.Machine.execLeakTest a s
  | .abortTest a => Sys2Proof.Machine.execAbortTest a s
  | .commit a => Sys2Proof.Machine.execCommit a s
  | .writeSetup a => Sys2Proof.Machine.execWriteSetup a s
  | .query a => Sys2Proof.Machine.execQuery a s
  | .clearEvents a => Sys2Proof.Machine.execClearEvents a s
  | .setReportMask a => Sys2Proof.Machine.execSetReportMask a s
  | .restart a => Sys2Proof.Machine.execRestart a s
  | .requestPartReceived p => Sys2Proof.Machine.execRequestPartReceived p s
  | .claimNoticeReceived n p => Sys2Proof.Machine.execClaimNoticeReceived n p s
  | .presenceNoticeReceived n p => Sys2Proof.Machine.execPresenceNoticeReceived n p s
  | .excursionNoticeReceived n p => Sys2Proof.Machine.execExcursionNoticeReceived n p s
  | .frameReceived bits => Sys2Proof.Machine.execFrameReceived bits s
  | .lineIdleOffer => Sys2Proof.Machine.execLineIdleOffer s
  | .arbitrationLost => Sys2Proof.Machine.execArbitrationLost s
  | .sendBitError => Sys2Proof.Machine.execSendBitError s
  | .sendSuccess => Sys2Proof.Machine.execSendSuccess s
  | .noticeIntervalBoundary => Sys2Proof.Machine.execNoticeIntervalBoundary s
  | .claimOffsetPlacement => Sys2Proof.Machine.execClaimOffsetPlacement s
  | .claimSpacingExpiry => Sys2Proof.Machine.execClaimSpacingExpiry s
  | .probePlacement => Sys2Proof.Machine.execProbePlacement s
  | .silenceTimerExpiry => Sys2Proof.Machine.execSilenceTimerExpiry s
  | .settleTimerExpiry p => Sys2Proof.Machine.execSettleTimerExpiry p s
  | .overdrawAssert t => Sys2Proof.Machine.execOverdrawAssert s t
  | .overdrawDeassert t => Sys2Proof.Machine.execOverdrawDeassert s t
  | .backoffTimerExpiry => Sys2Proof.Machine.execBackoffTimerExpiry s
  | .chillRdyAssert t => Sys2Proof.Machine.execChillRdyAssert s t
  | .chillRdyDeassert t => Sys2Proof.Machine.execChillRdyDeassert s t
  | .chillStarvationExpiry => Sys2Proof.Machine.execChillStarvationExpiry s
  | .handlePress t => Sys2Proof.Machine.execHandlePress s t
  | .handleRelease t => Sys2Proof.Machine.execHandleRelease s t
  | .kegInsertion t => Sys2Proof.Machine.execKegInsertion s t
  | .kegRemoval t => Sys2Proof.Machine.execKegRemoval s t
  | .probeSample w c => Sys2Proof.Machine.execProbeSample w c s
  | .holdTimerExpiry w => Sys2Proof.Machine.execHoldTimerExpiry w s
  | .overtempTimerExpiry => Sys2Proof.Machine.execOvertempTimerExpiry s
  | .undertempTimerExpiry => Sys2Proof.Machine.execUndertempTimerExpiry s
  | .pressureConversion r => Sys2Proof.Machine.execPressureConversion r s
  | .flowPulse w r => Sys2Proof.Machine.execFlowPulse w r s
  | .rateBinEnd => Sys2Proof.Machine.execRateBinEnd s
  | .foamTimeExpiry => Sys2Proof.Machine.execFoamTimeExpiry s
  | .controlPeriodStart => Sys2Proof.Machine.execControlPeriodStart s
  | .glycolOpenTimeEnd => Sys2Proof.Machine.execGlycolOpenTimeEnd s
  | .heaterOnTimeEnd => Sys2Proof.Machine.execHeaterOnTimeEnd s
  | .crashInBandExpiry => Sys2Proof.Machine.execCrashInBandExpiry s
  | .stepMinuteRise => Sys2Proof.Machine.execStepMinuteRise s
  | .batchMinuteRise => Sys2Proof.Machine.execBatchMinuteRise s
  | .pressurePeriod => Sys2Proof.Machine.execPressurePeriod s
  | .hourEnd => Sys2Proof.Machine.execHourEnd s
  | .gasOpenTimerExpiry => Sys2Proof.Machine.execGasOpenTimerExpiry s
  | .primingExpiry => Sys2Proof.Machine.execPrimingExpiry s
  | .pauseExpiry => Sys2Proof.Machine.execPauseExpiry s
  | .pourTimeLimitExpiry => Sys2Proof.Machine.execPourTimeLimitExpiry s
  | .drainWindowEnd => Sys2Proof.Machine.execDrainWindowEnd s
  | .clearanceTimerExpiry => Sys2Proof.Machine.execClearanceTimerExpiry s
  | .leakTestTimerExpiry => Sys2Proof.Machine.execLeakTestTimerExpiry s
  | .commitTimerExpiry => Sys2Proof.Machine.execCommitTimerExpiry s
  | .commitComplete => Sys2Proof.Machine.execCommitComplete s
  | .setupWriteComplete => Sys2Proof.Machine.execSetupWriteComplete s
  | .powerLoss => Sys2Proof.Machine.execPowerLoss s

end Sys2Proof.Machine
end

