-- ==== Sys2Proof/Safety.lean ====
section
/-! DEFINITION. What the block must never do, as predicates on a state: the claim-then-use bounds of the pools (R84, R93),
the gas and vent rule (R68), the tap rule (R143), the one pour held (R151), the legal states of the station and of the
record, and the checks that fail in mid-write. -/
namespace Sys2Proof.Machine
open Sys2Proof

/-- R84, R93: in-use lies within the grant, and the grant within the own demand. -/
abbrev PoolItem.bounded (it : PoolItem) : Prop := it.inUse ≤ it.grant ∧ it.grant ≤ it.own.demand

/-- The bound in every pool; the peer view holds no entry for the station's own ID (R87). -/
abbrev Station.poolsBounded (s : Station) : Prop :=
  s.pools.items.heat.bounded ∧ s.pools.items.chill.bounded ∧ s.pools.items.gas.bounded ∧
    ∀ e ∈ s.pools.peers, e.id ≠ s.start.id

/-- R68: the gas valve is open only while the posted demand and in-use are 1, and an open vent leaves no demand posted. -/
abbrev Station.gasSafe (s : Station) : Prop :=
  (s.press.gas = true → s.pools.items.gas.posted.demand = 1 ∧ s.pools.items.gas.inUse = 1) ∧
    (s.press.vent = true → s.pools.items.gas.posted.demand = 0)

/-- R143: the tap is open only while a pour is ACTIVE. -/
abbrev Station.tapSafe (s : Station) : Prop :=
  s.pour.tap = true → s.stage = some .active

/-- R142, R151: a pour in its drain window leaves no other in progress. -/
abbrev Station.onePour (s : Station) : Prop := s.pour.active = none ∨ s.pour.drain = none

/-- R133, R164: a clear H means NORMAL past the window, and NORMAL past the window has H clear; SAFE_HOLD comes after the
window; a kind is active exactly outside NORMAL; requests are taken from the window on (R130). -/
abbrev Station.stateLegal (s : Station) : Prop :=
  (s.exc.h = false → s.exc.state = .normal ∧ s.start.phase = .running) ∧
    (s.exc.state = .normal → s.start.phase = .running → s.exc.h = false) ∧
    (s.exc.state = .safeHold → s.start.phase = .running) ∧
    (s.exc.state = .normal ↔ s.exc.kind = none) ∧
    (s.keg.loaded = true → s.start.phase = .window ∨ s.start.phase = .running)

/-- R8, R11, R12: the record is OFF exactly with no batch, the commit timer runs only in DIRTY with no commit in flight, and
the pending mark stands only with a commit in flight or a restart pending (R17). -/
abbrev Station.recordLegal (s : Station) : Prop :=
  (s.keg.persist = .off ↔ s.keg.batch = none) ∧
    (s.keg.timerMs.isSome = true → s.keg.persist = .dirty ∧ s.keg.commit = none) ∧
    (s.keg.pendingMark = true → s.keg.commit.isSome = true ∨ s.req.restart.isSome = true)

/-- R14, R16, R129: the image fails its check while a commit is in flight, and the setup block while a setup write is. -/
abbrev Station.tornOk (s : Station) : Prop :=
  (s.keg.commit.isSome = true → imageValid 146 s.nv.image = false) ∧
    (s.nv.setupWrite.isSome = true → imageValid 17 s.nv.setupBlock = false)

/-- The lengths of nonvolatile memory (R202), and the numbers of entries of the lists and rings (R77, R116, R140, R160,
R175, R186). -/
abbrev Station.sizesOk (s : Station) : Prop :=
  s.nv.image.length = 148 ∧ s.nv.setupBlock.length = 19 ∧
    s.nv.setupWrite.all (fun l => l.length == 17) = true ∧ s.pour.queue.length ≤ 4 ∧
    s.link.replies.length ≤ 4 ∧ s.link.reports.length ≤ 4 ∧ s.pour.recent.length ≤ 4 ∧ s.exc.log.length ≤ 8 ∧
    s.press.log.length ≤ 24 ∧ s.health.log.length = 8

/-! What the statements ask of a state before a command, and the reply that joins. -/

/-- The request a command stands for: its code (R201) and its argument bytes. -/
def requestOf : Instr → Option (Nat × List Byte)
  | .startBatch a => some (1, a)
  | .editStep a => some (2, a)
  | .advanceStep a => some (3, a)
  | .runProgram a => some (4, a)
  | .pauseProgram a => some (5, a)
  | .endBatch a => some (6, a)
  | .pour a => some (7, a)
  | .cancelPour a => some (8, a)
  | .lockTap a => some (9, a)
  | .unlockTap a => some (10, a)
  | .freezeTap a => some (11, a)
  | .resume a => some (12, a)
  | .releaseLockout a => some (13, a)
  | .leakTest a => some (14, a)
  | .abortTest a => some (15, a)
  | .commit a => some (16, a)
  | .writeSetup a => some (17, a)
  | .query a => some (18, a)
  | .clearEvents a => some (19, a)
  | .setReportMask a => some (20, a)
  | .restart a => some (21, a)
  | _ => none

/-- A whole request is taken (R118, R130): the part has its supply, step 4 has completed, the reply list has room. -/
abbrev Station.takes (s : Station) : Prop :=
  s.powered = true ∧ s.keg.loaded = true ∧ s.link.replies.length < 4

/-- A request that every role takes is not turned away ahead of its own list (R189, R192). -/
abbrev Station.admits (s : Station) : Prop := s.takes ∧ s.req.restart = none

/-- The same for a request that a follower refuses with ROLE (R189). -/
abbrev Station.admitsOwn (s : Station) : Prop := s.admits ∧ s.start.role ≠ .follower

/-- The station with a reply joined to the end of the reply list (R118). -/
def Station.withReply (s : Station) (code : Nat) (rc : ReplyCode) : Station :=
  { s with link.replies := s.link.replies ++ [{ code := code, rc := rc }] }

/-- The temperature check has nothing to report, whatever the setpoint (R162). -/
abbrev Station.calm (s : Station) : Prop :=
  s.tAvg.all (fun t => decide (t ≤ 350)) = true ∧ s.exc.overS < 600 ∧ s.exc.underS < 60 ∧ s.exc.overtemp = false ∧
    s.exc.undertemp = false

end Sys2Proof.Machine
end

