-- ==== Sys2Proof/Certificates/Slice0/Obligations.lean ====
section
/-! DEFINITION. The statements about the block, each a closed proposition over the definitions of the model. A statement
about a command concludes that `exec` answers a next state, and says what that state holds. -/
open Sys2Proof Sys2Proof.Machine

/-! ## Steps, the queue, and the supply -/

/-- A step takes the command at the front of the queue and acts with the queue's rest. -/
def Obligations.StepTakesTheFrontCommand : Prop :=
  ∀ (c : Instr) (rest : List Instr) (a : Station), step ⟨a, c :: rest⟩ = exec c ⟨a, rest⟩

/-- With no command waiting, one millisecond passes (the model's choice, log 2): a running commit timer, silence timer,
back-off and claim spacing count down, the clearance and the hold clock count up, and no output, record, holding or flag
changes. -/
def Obligations.IdleStepIsOneMillisecond : Prop :=
  ∀ a : Station, a.powered = true →
    ∃ t, step ⟨a, []⟩ = .next ⟨t, []⟩ ∧
      t.subMs = (if a.subMs + 1 < 1000 then a.subMs + 1 else 0) ∧
      t.keg = { a.keg with timerMs := a.keg.timerMs.map (fun n => n - 1), secs := t.keg.secs } ∧
      t.pools.silenceMs = a.pools.silenceMs.map (fun n => n - 1) ∧
      t.pools.backoffMs = a.pools.backoffMs.map (fun n => n - 1) ∧
      t.exc =
        { a.exc with
          clearMs := a.exc.clearMs.map (fun n => min 300000 (n + 1))
          holdMs := a.exc.holdMs.map (fun n => min 4294967295 (n + 1)) } ∧
      t.link = { a.link with spacingMs := a.link.spacingMs.map (fun n => n - 1) } ∧
      t.nv = a.nv ∧ t.req = a.req ∧ t.press = a.press ∧ t.pour.tap = a.pour.tap ∧ t.pour.queue = a.pour.queue ∧
      t.pour.recent = a.pour.recent ∧ t.prog.glycol = a.prog.glycol ∧ t.prog.heater = a.prog.heater ∧
      t.chillReq = a.chillReq ∧ t.faultLine = a.faultLine ∧ t.sense.p = a.sense.p ∧ t.sense.pulses = a.sense.pulses

/-- Every command completes, and leaves the queue as it finds it. -/
def Obligations.EveryCommandCompletes : Prop :=
  ∀ (c : Instr) (s : State), ∃ t, exec c s = .next t ∧ t.pending = s.pending

/-- A loss of the supply leaves nonvolatile memory as it stands, and nothing else. A commit or setup write in flight is
cut short, and its checksum does not check, in every state with the invariant `tornOk`, which every step keeps. A part
without its supply takes no command but POWER_ON, and POWER_LOSS leaves it without (the model's choice, log 32). -/
def Obligations.SupplyAndItsLoss : Prop :=
  (∀ s : State,
    exec .powerLoss s =
      .next ⟨{ nv := { image := s.station.nv.image, setupBlock := s.station.nv.setupBlock, setupWrite := none }
               start := { phase := .off } }, s.pending⟩) ∧
  (∀ s : State, s.station.tornOk →
    ∃ t, exec .powerLoss s = .next t ∧
      (s.station.keg.commit.isSome = true → imageValid 146 t.station.nv.image = false) ∧
      (s.station.nv.setupWrite.isSome = true → imageValid 17 t.station.nv.setupBlock = false)) ∧
  (∀ (c : Instr) (s : State), s.station.start.phase = .off → (∀ p, c ≠ .powerOn p) → c ≠ .powerLoss →
    exec c s = .next s)

/-! ## Starts -/

/-- Step 1 settles ID and role from the straps, and sets the flag of the strap table and no other. A pin reset does as a
power-on does. A power-on gives every block its start value, with the levels of step 1, and leaves the images as they
stand. The pools at the default budgets, the codes at 16 and the record OFF with the tap lock clear before steps 3 and 4
are the model's choice (log 12), as is a POWER_ON that finds the part with its supply (log 32). -/
def Obligations.StartGivesRoleAndStartValues : Prop :=
  (∀ (p : Pins) (s : State), s.station.powered = true →
    ∃ t, exec (.powerOn p) s = .next t ∧ exec (.pinReset p) s = .next t ∧ t.pending = s.pending ∧
      t.station.start.id = p.id.toNat ∧ t.station.start.pair = p.pair.toNat ∧
      (p.pair = 0 → t.station.start.role = .single ∧ t.station.req.flags = 0) ∧
      (p.pair = 1 → p.id ≠ 7 → t.station.start.role = .lead ∧ t.station.req.flags = 0) ∧
      (p.pair = 1 → p.id = 7 → t.station.start.role = .single ∧ t.station.req.flags = Flag.pairMismatch.bit) ∧
      (p.pair = 2 → p.id ≠ 0 → t.station.start.role = .follower ∧ t.station.req.flags = 0) ∧
      (p.pair = 2 → p.id = 0 → t.station.start.role = .single ∧ t.station.req.flags = Flag.pairMismatch.bit) ∧
      (p.pair = 3 → t.station.start.role = .single ∧ t.station.req.flags = Flag.pairStrap.bit)) ∧
  (∀ (p : Pins) (s : State),
    ∃ t, exec (.powerOn p) s = .next t ∧ t.pending = s.pending ∧
      t.station.nv = { s.station.nv with setupWrite := none } ∧
      t.station.start.phase = .checking ∧
      t.station.sense =
        { handle := p.handle, keg := p.keg, ackKeg := p.keg, chillRdy := p.chillRdy, overdraw := p.overdraw } ∧
      t.station.keg = {} ∧
      t.station.prog = { starveMs := if p.chillRdy then none else some 0 } ∧
      t.station.press = {} ∧ t.station.pools = { overdrawHold := p.overdraw } ∧ t.station.pour = {} ∧
      t.station.exc = {} ∧ t.station.health = {} ∧
      t.station.link = { evt := t.station.link.evt } ∧
      t.station.req.mask = 0xFFFFF ∧ t.station.req.cause = t.station.req.flags ∧ t.station.req.joined = 0 ∧
      t.station.req.asm = none ∧
      t.station.req.abandoned = 0 ∧ t.station.req.restart = none)

/-- The end of the reference check: raw codes and marks, the setup block applied or defaulted, the codes in use by the
mode table for both probes, the record loaded by a station that is not a follower, the window opened, and the first
pressure period run: a station in NORMAL with no batch opens its vent. -/
def Obligations.ReferenceCheckLeadsToTheWindow : Prop :=
  ∀ (beer jacket : Option (BitVec 5)) (s : State) (u : Setup),
    s.station.start.phase = .checking → s.station.sense.beer.hist = [] → s.station.pour.active = none →
    u = (readSetup s.station.nv.setupBlock).getD {} →
    ∃ t, exec (.referenceCheckDone beer jacket) s = .next t ∧ t.pending = s.pending ∧
      t.station.start.phase = .window ∧ t.station.start.windowMs = 0 ∧ t.station.start.boundaries = 0 ∧
      t.station.start.setup = u ∧ t.station.pools.silenceMs = some 4000 ∧
      t.station.sense.sampling = true ∧ t.station.sense.beer.holdMs = some 0 ∧ t.station.sense.jacket.holdMs = some 0 ∧
      t.station.sense.beer.raw = (match beer with | none => 16 | some c => c.toNat) ∧
      t.station.sense.beer.refFailed = beer.isNone ∧
      t.station.sense.jacket.raw = (match jacket with | none => 16 | some c => c.toNat) ∧
      t.station.sense.jacket.refFailed = jacket.isNone ∧
      t.station.sense.beer.code =
        (match u.beerMode with
          | .auto => t.station.sense.beer.raw
          | .fixed => u.beerTrim
          | .less => t.station.sense.beer.raw - u.beerTrim
          | .more => min 31 (t.station.sense.beer.raw + u.beerTrim)) ∧
      t.station.sense.jacket.code =
        (match u.jacketMode with
          | .auto => t.station.sense.jacket.raw
          | .fixed => u.jacketTrim
          | .less => t.station.sense.jacket.raw - u.jacketTrim
          | .more => min 31 (t.station.sense.jacket.raw + u.jacketTrim)) ∧
      t.station.pools.items.heat.budget = u.budget.heat ∧ t.station.pools.items.chill.budget = u.budget.chill ∧
      t.station.pools.items.gas.budget = u.budget.gas ∧
      t.station.keg.loaded = true ∧ t.station.keg.commit = none ∧ t.station.keg.pendingMark = false ∧
      t.station.keg.changeMark = false ∧ t.station.keg.timerMs = none ∧ t.station.keg.secs = 0 ∧
        t.station.press.on = true ∧
      t.station.press.hourClock = min 3600 (s.station.press.hourClock + 1) ∧
      (s.station.start.role ≠ .follower → s.station.exc.state = .normal → s.station.health.test = none →
        t.station.keg.batch = none → t.station.press.vent = true ∧ t.station.pools.items.gas.posted = {}) ∧
      (readSetup s.station.nv.setupBlock = none → t.station.flag .setupDefaulted = true) ∧
      (s.station.start.role ≠ .follower → imageValid 146 s.station.nv.image = false →
        t.station.keg.batch = none ∧ t.station.keg.tapLock = false ∧ t.station.keg.persist = .off ∧
          t.station.flag .recordLost = true) ∧
      (s.station.start.role ≠ .follower → imageValid 146 s.station.nv.image = true →
        t.station.keg.batch = (Rec.ofImage s.station.nv.image).batch ∧
          t.station.keg.tapLock = (Rec.ofImage s.station.nv.image).tapLock ∧
          t.station.keg.persist = if (Rec.ofImage s.station.nv.image).batch = none then .off else .clean) ∧
      (s.station.start.role = .follower →
        t.station.keg.batch = none ∧ t.station.keg.tapLock = false ∧ t.station.keg.persist = .off)

/-! ## Requests: taking, refusing, assembling -/

/-- A refused request leaves the station as it found it, but for its reply, which carries the reply code. A whole
request that finds the reply list full, or step 4 of the start not yet complete, is discarded and counted. That a
request row stands for a whole request is the model's reading (log 7). -/
def Obligations.RequestsAreRefusedOrDiscardedWhole : Prop :=
  (∀ (c : Instr) (code : Nat) (args : List Byte) (s : State), requestOf c = some (code, args) → s.station.takes →
    (judge code args (reserveEntry code s.station)).rc ≠ .ok →
    exec c s =
      .next ⟨s.station.withReply code (judge code args (reserveEntry code s.station)).rc, s.pending⟩) ∧
  (∀ (c : Instr) (code : Nat) (args : List Byte) (s : State), requestOf c = some (code, args) →
    s.station.powered = true → s.station.keg.loaded = false ∨ 4 ≤ s.station.link.replies.length →
    exec c s =
      .next ⟨{ s.station with link.overruns := min 65535 (s.station.link.overruns + 1) }, s.pending⟩)

/-- The refusals of START_BATCH, in the order of their table. The refusals of POUR, in the order of their table. -/
def Obligations.RefusalsComeInTheOrderOfTheirTables : Prop :=
  (∀ (a : List Byte) (s : State), s.station.admits →
    ∃ t rc, exec (.startBatch a) s = .next t ∧
      t.station.link.replies = s.station.link.replies ++ [{ code := 1, rc := rc }] ∧
      rc =
      if a.length < 7 ∨ a.length ≠ 7 + 10 * (a.getD 6 0).toNat then .badLength
      else if s.station.start.role = .follower then .role
      else if s.station.exc.state = .lockout then .lockout
      else if s.station.health.test.isSome then .busyTest
      else if s.station.keg.batch.isSome then .badState
      else if s.station.sense.keg = false then .noKeg
      else if readProfile s.station.start.setup.pr a = none then .badProfile
      else .ok) ∧
  (∀ (tag form v1 v2 limit : Byte) (s : State), s.station.admits →
    ∃ t rc, exec (.pour [tag, form, v1, v2, limit]) s = .next t ∧
      t.station.link.replies = s.station.link.replies ++ [{ code := 7, rc := rc }] ∧
      rc =
      if 15 < tag.toNat then .badLength
      else if s.station.start.role = .follower then .role
      else if s.station.exc.state = .lockout then .lockout
      else if s.station.keg.batch = none ∨ (form.getLsbD 7 = false ∧ s.station.recPhase ≠ .serve) then .badState
      else if s.station.sense.keg = false then .noKeg
      else if s.station.kegEmpty = true then .empty
      else if s.station.keg.tapLock = true then .locked
      else if tag = 0 ∨ ∃ o ∈ s.station.pour.queue, o.tag = tag.toNat then .tagInUse
      else if 4 ≤ s.station.pour.queue.length then .queueFull
      else .ok)

/-- A request part for the station. A first part of several begins an assembly, the next part in order goes on with it,
and the last completes it: the whole request goes to the free-entry test, and with an entry free its reply joins the
list. A part that is a whole request does the same. Index 0 over a running assembly, any part out of its order, a part
shorter than its header and a part count of 0 or above 16 abandon a running assembly, which is counted. A part before
step 4 of the start is discarded and counted. -/
def Obligations.PartsOfARequestAreAssembled : Prop :=
  (∀ (code idx count : Byte) (args : List Byte) (s : State), s.station.powered = true → s.station.keg.loaded = true →
    s.station.link.idleSeen = true →
    ∃ t, exec (.requestPartReceived (code :: idx :: count :: args)) s = .next t ∧ t.pending = s.pending ∧
      t.station.link.rx = min 65535 (s.station.link.rx + 1) ∧
      (idx = 0 → 1 ≤ count.toNat → count.toNat ≤ 16 →
        t.station.req.abandoned =
          (if s.station.req.asm = none then s.station.req.abandoned else min 65535 (s.station.req.abandoned + 1))) ∧
      (idx = 0 → count = 1 →
        t.station.req.asm = none ∧
          (s.station.link.replies.length < 4 →
            ∃ rc answer,
              t.station.link.replies =
                s.station.link.replies ++ [{ code := code.toNat, rc := rc, answer := answer }]) ∧
          (4 ≤ s.station.link.replies.length →
            t.station.link.replies = s.station.link.replies ∧
              t.station.link.overruns = min 65535 (s.station.link.overruns + 1))) ∧
      (idx = 0 → 2 ≤ count.toNat → count.toNat ≤ 16 →
        t.station.req.asm = some { code := code.toNat, count := count.toNat, next := 1, args := args } ∧
          t.station.link.replies = s.station.link.replies) ∧
      (∀ a, s.station.req.asm = some a → idx ≠ 0 → a.code = code.toNat → a.count = count.toNat →
        a.next = idx.toNat → count.toNat ≤ 16 →
        (idx.toNat + 1 ≠ count.toNat → count ≠ 0 →
          t.station.req.asm = some { a with next := idx.toNat + 1, args := a.args ++ args } ∧
            t.station.req.abandoned = s.station.req.abandoned ∧ t.station.link.replies = s.station.link.replies) ∧
        (idx.toNat + 1 = count.toNat →
          t.station =
              takeRequest code.toNat (judge code.toNat (a.args ++ args))
                { countFrame false s.station with req.asm := none } ∧
            t.station.req.asm = none ∧ t.station.req.abandoned = s.station.req.abandoned ∧
            (s.station.link.replies.length < 4 →
              ∃ rc answer,
                t.station.link.replies =
                  s.station.link.replies ++ [{ code := code.toNat, rc := rc, answer := answer }]) ∧
            (4 ≤ s.station.link.replies.length →
              t.station.link.replies = s.station.link.replies ∧
                t.station.link.overruns = min 65535 (s.station.link.overruns + 1)))) ∧
      (∀ a, s.station.req.asm = some a → idx ≠ 0 →
        ¬(a.code = code.toNat ∧ a.count = count.toNat ∧ a.next = idx.toNat) →
        t.station.req.asm = none ∧ t.station.req.abandoned = min 65535 (s.station.req.abandoned + 1) ∧
          t.station.link.replies = s.station.link.replies)) ∧
  (∀ (p : List Byte) (s : State), s.station.powered = true → s.station.keg.loaded = true →
    s.station.link.idleSeen = true → p.length < 3 ∨ p.getD 2 0 = 0 ∨ 16 < (p.getD 2 0).toNat →
    ∃ t, exec (.requestPartReceived p) s = .next t ∧ t.pending = s.pending ∧ t.station.req.asm = none ∧
      t.station.req.abandoned =
        (if s.station.req.asm = none then s.station.req.abandoned else min 65535 (s.station.req.abandoned + 1)) ∧
      t.station.link.replies = s.station.link.replies ∧ t.station.link.overruns = s.station.link.overruns) ∧
  (∀ (p : List Byte) (s : State), s.station.powered = true → s.station.keg.loaded = false →
    s.station.link.idleSeen = true →
    ∃ t, exec (.requestPartReceived p) s = .next t ∧ t.pending = s.pending ∧
      t.station.link.overruns = min 65535 (s.station.link.overruns + 1) ∧ t.station.req.asm = s.station.req.asm ∧
      t.station.link.replies = s.station.link.replies)

/-! ## Accepted requests: the record and the program -/

/-- An accepted START_BATCH makes the record hold the batch of the request, each field at its start value, with the run
state RUN, or in SAFE_HOLD PAUSED with RUN in the saved context; PHASE_CHANGED sets, the activity log, gas counts and
foam run clear, and with no commit in flight a commit of the new batch starts. -/
def Obligations.StartBatchStartsABatch : Prop :=
  ∀ (a : List Byte) (p : List Machine.Step) (s : State), s.station.admitsOwn → s.station.calm →
    7 ≤ a.length → a.length = 7 + 10 * at8 a 6 → s.station.exc.state ≠ .lockout → s.station.health.test = none →
    s.station.keg.batch = none → s.station.sense.keg = true → readProfile s.station.start.setup.pr a = some p →
    ∃ t b, exec (.startBatch a) s = .next t ∧ t.pending = s.pending ∧
      t.station.keg.batch = some b ∧ b.number = clampNat 1 65535 (at16 a 0) ∧
      b.fill = clampNat 5000 19000 (at16 a 2) ∧ b.remaining = b.fill ∧ b.target = clampNat 100 400 (at16 a 4) ∧
      b.profile = p ∧ b.total = 0 ∧ b.pours = 0 ∧ b.kegEmpty = false ∧ b.est = none ∧ b.stepIdx = 0 ∧
      b.stepMin = 0 ∧ b.programEnd = false ∧ b.batchMin = 0 ∧ b.phase = b.step.tag ∧
      (∀ x, s.station.tAvg = some x → s.station.sense.beer.state = .ok → b.rampStart = clampInt (-20) 300 x) ∧
      (s.station.tAvg = none ∨ s.station.sense.beer.state ≠ .ok → b.rampStart = b.step.target) ∧
      (b.run = true ↔ s.station.exc.state = .normal) ∧
      (s.station.exc.state = .safeHold → t.station.exc.saved.run = true) ∧
      t.station.keg.tapLock = s.station.keg.tapLock ∧ t.station.keg.persist = .initial ∧ t.station.keg.secs = 0 ∧
      t.station.flag .phaseChanged = true ∧ t.station.press.log = [] ∧ t.station.health.gasCount = 0 ∧
      t.station.health.poured = 0 ∧ t.station.pour.foamRun = 0 ∧
      (s.station.keg.commit = none →
        t.station.keg.commit = some { snap := ⟨some b, s.station.keg.tapLock⟩ } ∧ t.station.keg.timerMs = none ∧
          imageValid 146 t.station.nv.image = false) ∧
      (s.station.keg.commit.isSome = true → t.station.keg.pendingMark = true) ∧
      t.station.link.replies = s.station.link.replies ++ [{ code := 1 }] ∧ t.station.start = s.station.start ∧
      t.station.sense = s.station.sense ∧ t.station.exc.state = s.station.exc.state ∧
      t.station.pour.queue = s.station.pour.queue

/-- An accepted EDIT_STEP of a later step, or of the current one with its duration as it was, stores the clamped step in
its place and changes nothing else of the batch. -/
def Obligations.EditStepReplacesOneStep : Prop :=
  ∀ (i : Byte) (a : List Byte) (st : Machine.Step) (b : Batch) (s : State), s.station.admitsOwn → s.station.calm →
    a.length = 10 → readStep s.station.start.setup.pr (i :: a) 1 = some st → st.legal = true →
    s.station.keg.batch = some b → i.toNat < b.profile.length → b.stepIdx ≤ i.toNat →
    (i.toNat = b.stepIdx → sameButSetting st b.step = true ∧ st.duration = b.step.duration) →
    ∃ t, exec (.editStep (i :: a)) s = .next t ∧ t.pending = s.pending ∧
      t.station.keg.batch = some { b with profile := b.profile.set i.toNat st } ∧
      t.station.link.replies = s.station.link.replies ++ [{ code := 2 }] ∧ t.station.start = s.station.start ∧
      t.station.sense = s.station.sense ∧ t.station.press = s.station.press ∧ t.station.prog = s.station.prog ∧
      t.station.pools = s.station.pools ∧ t.station.pour = s.station.pour ∧ t.station.nv = s.station.nv ∧
      t.station.exc.state = s.station.exc.state ∧ t.station.req = s.station.req

/-- A step that is not the final one ends at an accepted ADVANCE_STEP: the next step becomes current with its elapsed
minutes at 0, the setpoint that stood becomes the ramp start, the phase follows, and STEP_ADVANCED sets. On the final
step ADVANCE_STEP ends the program: the step stays, the program-end flag and PROGRAM_END set, and the setpoint is the
final step's target from then on. -/
def Obligations.AdvanceStepEndsTheStep : Prop :=
  (∀ (b : Batch) (s : State), s.station.admitsOwn → s.station.calm → s.station.exc.state ≠ .lockout →
    s.station.keg.batch = some b → b.programEnd = false → b.stepIdx + 1 < b.profile.length →
    ∃ t b', exec (.advanceStep []) s = .next t ∧ t.pending = s.pending ∧ t.station.keg.batch = some b' ∧
      b' = { b with
        rampStart := b.setpoint, stepIdx := b.stepIdx + 1, stepMin := 0
        phase := (b.profile.getD (b.stepIdx + 1) {}).tag } ∧
      t.station.prog.secs = 0 ∧ t.station.prog.inBandS = 0 ∧ t.station.flag .stepAdvanced = true ∧
      (b'.phase ≠ b.phase → t.station.flag .phaseChanged = true) ∧
      (s.station.keg.commit = none →
        t.station.keg.commit = some { snap := ⟨some b', s.station.keg.tapLock⟩ }) ∧
      (s.station.keg.commit.isSome = true → t.station.keg.pendingMark = true) ∧
      t.station.link.replies = s.station.link.replies ++ [{ code := 3 }] ∧ t.station.start = s.station.start ∧
      t.station.sense = s.station.sense ∧ t.station.exc.state = s.station.exc.state ∧
      t.station.pour.queue = s.station.pour.queue) ∧
  (∀ (b : Batch) (s : State), s.station.admitsOwn → s.station.calm → s.station.exc.state ≠ .lockout →
    s.station.keg.batch = some b → b.programEnd = false → b.profile.length ≤ b.stepIdx + 1 →
    ∃ t, exec (.advanceStep []) s = .next t ∧ t.pending = s.pending ∧
      t.station.keg.batch = some { b with programEnd := true } ∧ t.station.setpoint = some b.step.target ∧
      t.station.flag .programEnd = true ∧
      (s.station.flag .stepAdvanced = false → t.station.flag .stepAdvanced = false) ∧
      t.station.link.replies = s.station.link.replies ++ [{ code := 3 }] ∧ t.station.start = s.station.start ∧
      t.station.sense = s.station.sense ∧ t.station.exc.state = s.station.exc.state)

/-- RUN_PROGRAM writes RUN; PAUSE_PROGRAM writes PAUSED, and in SAFE_HOLD it writes PAUSED into the saved context
instead. Where the run state changes, a CLEAN record becomes DIRTY with its commit timer running, and a commit in flight
sees the change; nothing else but the reply changes. Where it has its value already, the reply alone is made. -/
def Obligations.RunAndPauseWriteTheRunState : Prop :=
  ∀ (b : Batch) (k : Bool → Keg) (s : State), s.station.admitsOwn → s.station.exc.state ≠ .lockout →
    s.station.keg.batch = some b →
    k = (fun v =>
      { s.station.keg with
        batch := some { b with run := v }
        persist := if s.station.keg.persist = .clean then .dirty else s.station.keg.persist
        changeMark := s.station.keg.changeMark || s.station.keg.commit.isSome
        timerMs :=
          if s.station.keg.persist = .clean ∧ s.station.keg.commit = none then some 900000
          else s.station.keg.timerMs }) →
    (s.station.exc.h = false →
      (b.run = false →
        exec (.runProgram []) s = .next ⟨{ s.station with keg := k true }.withReply 4 .ok, s.pending⟩) ∧
      (b.run = true → exec (.runProgram []) s = .next ⟨s.station.withReply 4 .ok, s.pending⟩)) ∧
    (s.station.exc.state = .normal →
      (b.run = true →
        exec (.pauseProgram []) s = .next ⟨{ s.station with keg := k false }.withReply 5 .ok, s.pending⟩) ∧
      (b.run = false → exec (.pauseProgram []) s = .next ⟨s.station.withReply 5 .ok, s.pending⟩)) ∧
    (s.station.exc.state = .safeHold →
      exec (.pauseProgram []) s =
        .next ⟨{ s.station with exc.saved.run := false }.withReply 5 .ok, s.pending⟩)

/-- An accepted END_BATCH closes the batch: every queued order is reported CANCELLED with 0 ml, the record goes OFF, the
tap lock keeps its value, the commit timer stops and PHASE_CHANGED sets; KEG_REMOVED does not. -/
def Obligations.EndBatchClosesTheBatch : Prop :=
  ∀ (b : Batch) (s : State), s.station.admitsOwn → s.station.calm → s.station.health.test = none →
    s.station.keg.batch = some b → s.station.pour.active = none →
    ∃ t, exec (.endBatch []) s = .next t ∧ t.pending = s.pending ∧
      t.station.keg.batch = none ∧ t.station.keg.persist = .off ∧ t.station.keg.tapLock = s.station.keg.tapLock ∧
      t.station.keg.timerMs = none ∧ t.station.flag .phaseChanged = true ∧
      t.station.flag .kegRemoved = s.station.flag .kegRemoved ∧ t.station.pour.queue = [] ∧
      t.station.pour.recent =
        ((s.station.pour.queue.map fun o =>
            { tag := o.tag, kind := o.kind, requested := o.volume, delivered := 0, duration := 0
              outcome := .cancelled : PourReport }).reverse ++ s.station.pour.recent).take
          (if s.station.pour.queue = [] then s.station.pour.recent.length else 4) ∧
      t.station.health.gasCount = 0 ∧ t.station.health.poured = 0 ∧ t.station.health.meas = none ∧
      (s.station.keg.commit = none →
        t.station.keg.commit = some { snap := ⟨none, s.station.keg.tapLock⟩ }) ∧
      t.station.link.replies = s.station.link.replies ++ [{ code := 6 }] ∧ t.station.start = s.station.start ∧
      t.station.sense = s.station.sense ∧ t.station.exc.state = s.station.exc.state

/-- COMMIT is accepted in every station state. With no commit in flight and the record not CLEAN a commit of the record
as it stands starts; in CLEAN none; with one in flight the pending mark sets. The commit in flight completes: the image
holds the snapshot under a valid checksum, and the persistence state follows the table of what the record then holds.
With no restart pending, a pending mark starts a new commit unless the state is CLEAN, and a record left DIRTY with none
restarts the timer. The image that a commit writes checks. That the first 146 bytes of the image stay as they were while
the commit is in flight is the model's choice (log 14). -/
def Obligations.CommitsStartAndCompleteByTheTable : Prop :=
  (∀ s : State, s.station.admitsOwn →
    ∃ t, exec (.commit []) s = .next t ∧ t.pending = s.pending ∧
      (s.station.keg.commit = none → s.station.keg.persist = .clean → t.station = s.station.withReply 16 .ok) ∧
      (s.station.keg.commit.isSome = true →
        t.station = { s.station with keg.pendingMark := true }.withReply 16 .ok) ∧
      (s.station.keg.commit = none → s.station.keg.persist ≠ .clean →
        t.station =
          { s.station with
            keg.commit := some { snap := ⟨s.station.keg.batch, s.station.keg.tapLock⟩ }
            keg.changeMark := false
            keg.pendingMark := false
            keg.timerMs := none
            nv.image := t.station.nv.image }.withReply 16 .ok ∧
        (s.station.nv.image.length = 148 → t.station.nv.image.take 146 = s.station.nv.image.take 146) ∧
        imageValid 146 t.station.nv.image = false)) ∧
  (∀ (c : Commit) (s : State), s.station.powered = true → s.station.keg.commit = some c →
    s.station.req.restart = none →
    ∃ t, exec .commitComplete s = .next t ∧ t.pending = s.pending ∧
      (s.station.keg.pendingMark = false → t.station.nv.image = c.snap.image ∧ t.station.keg.commit = none) ∧
      (s.station.keg.batch = none → t.station.keg.persist = .off) ∧
      (∀ b, s.station.keg.batch = some b → c.startedSince = true → t.station.keg.persist = .initial) ∧
      (∀ b, s.station.keg.batch = some b → c.startedSince = false → s.station.keg.changeMark = false →
        t.station.keg.persist = .clean ∧ t.station.nv.image = c.snap.image ∧ t.station.keg.commit = none) ∧
      (∀ b, s.station.keg.batch = some b → c.startedSince = false → s.station.keg.changeMark = true →
        t.station.keg.persist = .dirty ∧
          (s.station.keg.pendingMark = false → t.station.keg.timerMs = some 900000)) ∧
      (s.station.keg.pendingMark = true → t.station.keg.persist ≠ .clean →
        t.station.keg.commit = some { snap := ⟨s.station.keg.batch, s.station.keg.tapLock⟩ }) ∧
      t.station.keg.pendingMark = false ∧ t.station.keg.batch = s.station.keg.batch ∧
      { t.station with keg := s.station.keg, nv := s.station.nv } = s.station) ∧
  (∀ r : Rec, imageValid 146 r.image = true)

/-! ## Accepted requests: tap, excursion, test, setup, reports -/

/-- An accepted POUR joins the queue at its tail with its clamped volume. Where its head may not start now, that and the
reply are all. An IMMEDIATE order accepted into an empty queue starts at once where it may: ACTIVE with the tap open at
P of the floor or above, else PRIMING with the tap as it was, the vent closed and a GAS demand of class POUR posted. -/
def Obligations.PourJoinsTheQueueAndStarts : Prop :=
  (∀ (tag form v1 v2 limit : Byte) (s : State) (o : Order), s.station.admitsOwn → s.station.exc.state ≠ .lockout →
    s.station.keg.batch.isSome = true → s.station.sense.keg = true → s.station.kegEmpty = false →
    s.station.keg.tapLock = false → tag ≠ 0 → tag.toNat ≤ 15 → (∀ x ∈ s.station.pour.queue, x.tag ≠ tag.toNat) →
    s.station.pour.queue.length < 4 → (form.getLsbD 7 = false → s.station.recPhase = .serve) →
    o = { tag := tag.toNat
          kind := if form.getLsbD 7 then .sample else .glass
          volume :=
            if form.getLsbD 7 then clampNat 10 150 (v1.toNat * 256 + v2.toNat)
            else clampNat 50 1000 (v1.toNat * 256 + v2.toNat)
          limit := if form.getLsbD 5 then some (clampNat 5 120 limit.toNat) else none
          start := if form.getLsbD 6 then .onHandle else .immediate } →
    ∃ t, exec (.pour [tag, form, v1, v2, limit]) s = .next t ∧ t.pending = s.pending ∧
      t.station.pour.queue = s.station.pour.queue ++ [o] ∧
      t.station.link.replies = s.station.link.replies ++ [{ code := 7 }] ∧
      (s.station.mayStart = false ∨ (s.station.pour.queue = [] ∧ o.start = .onHandle) →
        t.station = { s.station with pour.queue := s.station.pour.queue ++ [o] }.withReply 7 .ok)) ∧
  (∀ (tag form v1 v2 limit : Byte) (s : State), s.station.admitsOwn → s.station.keg.batch.isSome = true →
    tag ≠ 0 → tag.toNat ≤ 15 → s.station.pour.queue = [] → form.getLsbD 6 = false →
    (form.getLsbD 7 = false → s.station.recPhase = .serve) → s.station.mayStart = true →
    ∃ t a o, exec (.pour [tag, form, v1, v2, limit]) s = .next t ∧ t.pending = s.pending ∧
      t.station.pour.queue = [o] ∧ o.tag = tag.toNat ∧ t.station.pour.active = some a ∧
      a.tag = o.tag ∧ a.kind = o.kind ∧ a.requested = o.volume ∧ a.startCount = s.station.sense.pulses ∧
      a.closeLevel = some (max (o.volume / 2) (o.volume - min 50 (s.station.pour.coast.sum / 4))) ∧
      a.limitS = o.limit.getD (min 120 (10 + (o.volume + 24) / 25)) ∧ a.delivered = 0 ∧ a.ms = 0 ∧
      t.station.health.test = none ∧ t.station.pour.drain = none ∧
      (s.station.start.setup.fp ≤ s.station.sense.p →
        a.stage = .active ∧ t.station.pour.tap = true ∧ t.station.press.primReq = s.station.press.primReq) ∧
      (s.station.sense.p < s.station.start.setup.fp →
        a.stage = .priming ∧ t.station.pour.tap = s.station.pour.tap ∧ t.station.press.primReq = true ∧
          t.station.press.vent = false ∧ t.station.pools.items.gas.posted = ⟨1, .pour⟩) ∧
      t.station.keg = s.station.keg ∧ t.station.sense = s.station.sense ∧ t.station.start = s.station.start ∧
      t.station.exc = s.station.exc ∧ t.station.nv = s.station.nv)

/-- CANCEL_POUR of a QUEUED order takes it from the queue and reports it CANCELLED with 0 ml and duration 0; it counts
as a pour in the record. -/
def Obligations.CancelPourEndsAQueuedOrder : Prop :=
  ∀ (tag : Byte) (o : Order) (s : State), s.station.admitsOwn →
    (s.station.pour.queue.find? fun x => x.tag == tag.toNat) = some o →
    (∀ a, s.station.pour.active = some a → a.tag ≠ tag.toNat) →
    ∃ t, exec (.cancelPour [tag]) s = .next t ∧ t.pending = s.pending ∧
      t.station.pour.queue = (s.station.pour.queue.filter fun x => x.tag != tag.toNat) ∧
      t.station.pour.recent =
        ({ tag := o.tag, kind := o.kind, requested := o.volume, delivered := 0, duration := 0
           outcome := .cancelled : PourReport } :: s.station.pour.recent).take 4 ∧
      (∀ b, s.station.keg.batch = some b →
        ∃ b', t.station.keg.batch = some b' ∧ b'.pours = min 65535 (b.pours + 1) ∧ b'.remaining = b.remaining ∧
          b'.stepIdx = b.stepIdx ∧ b'.run = b.run) ∧
      t.station.link.replies = s.station.link.replies ++ [{ code := 8 }] ∧ t.station.start = s.station.start ∧
      t.station.sense = s.station.sense ∧ t.station.exc = s.station.exc ∧ t.station.nv = s.station.nv

/-- LOCK_TAP sets L: a change is a commit trigger, and every QUEUED order leaves the queue. UNLOCK_TAP clears L. A
request that finds L at its value changes nothing but the reply list. That the commit's snapshot is taken before the
queued orders complete is the order of the rule's text (log 3). -/
def Obligations.LockAndUnlockWriteTheTapLock : Prop :=
  ∀ s : State, s.station.admitsOwn → s.station.pour.freeze = false →
    (s.station.keg.tapLock = false →
      ∃ t, exec (.lockTap []) s = .next t ∧ t.pending = s.pending ∧ t.station.keg.tapLock = true ∧
        t.station.pour.queue =
          (if s.station.orderInProgress then s.station.pour.queue.take 1 else []) ∧
        t.station.pour.active = s.station.pour.active ∧
        (s.station.keg.commit = none →
          t.station.keg.commit = some { snap := ⟨s.station.keg.batch, true⟩ }) ∧
        t.station.link.replies = s.station.link.replies ++ [{ code := 9 }] ∧ t.station.prog = s.station.prog ∧
        t.station.press = s.station.press ∧ t.station.pools = s.station.pools ∧ t.station.exc = s.station.exc ∧
        t.station.sense = s.station.sense ∧ t.station.start = s.station.start ∧ t.station.req = s.station.req) ∧
    (s.station.keg.tapLock = true →
      ∃ t, exec (.unlockTap []) s = .next t ∧ t.pending = s.pending ∧ t.station.keg.tapLock = false ∧
        (s.station.keg.commit = none →
          t.station.keg.commit = some { snap := ⟨s.station.keg.batch, false⟩ }) ∧
        t.station.keg.batch = s.station.keg.batch ∧
        { t.station with keg := s.station.keg, nv := s.station.nv } = s.station.withReply 10 .ok) ∧
    (s.station.keg.tapLock = true → exec (.lockTap []) s = .next ⟨s.station.withReply 9 .ok, s.pending⟩) ∧
    (s.station.keg.tapLock = false → exec (.unlockTap []) s = .next ⟨s.station.withReply 10 .ok, s.pending⟩)

/-- An accepted FREEZE_TAP sets F in any station state; with a byte too many it is refused, and by a follower. While F
is set no command but a start, its load of the record included, or a loss of the supply changes L, whatever L holds,
and LOCK_TAP and UNLOCK_TAP are refused with FROZEN; no command but a start or a loss of the supply clears F, and
every start does, restart included. After the start L comes from the image, with the record. -/
def Obligations.FreezeHoldsTheTapLock : Prop :=
  (∀ s : State, s.station.admitsOwn →
    exec (.freezeTap []) s = .next ⟨{ s.station with pour.freeze := true }.withReply 11 .ok, s.pending⟩) ∧
  (∀ s : State, s.station.admitsOwn → s.station.pour.freeze = true →
    exec (.lockTap []) s = .next ⟨s.station.withReply 9 .frozen, s.pending⟩ ∧
      exec (.unlockTap []) s = .next ⟨s.station.withReply 10 .frozen, s.pending⟩) ∧
  (∀ (c : Instr) (s t : State), s.station.pour.freeze = true → exec c s = .next t → t.station.pour.freeze = true ∨
    (∃ p, c = .powerOn p ∨ c = .pinReset p ∨ c = .restartBegin p) ∨ c = .powerLoss) ∧
  (∀ (c : Instr) (s t : State), s.station.pour.freeze = true → exec c s = .next t →
    t.station.keg.tapLock = s.station.keg.tapLock ∨
    (∃ p, c = .powerOn p ∨ c = .pinReset p ∨ c = .restartBegin p) ∨ c = .powerLoss ∨
    (s.station.start.phase = .checking ∧ ∃ x y, c = .referenceCheckDone x y)) ∧
  (∀ (a : List Byte) (s : State), s.station.admits → a ≠ [] →
    exec (.freezeTap a) s = .next ⟨s.station.withReply 11 .badLength, s.pending⟩) ∧
  (∀ s : State, s.station.admits → s.station.start.role = .follower →
    exec (.freezeTap []) s = .next ⟨s.station.withReply 11 .role, s.pending⟩) ∧
  (∀ (p : Pins) (s : State),
    (∃ t, exec (.powerOn p) s = .next t ∧ t.station.pour.freeze = false) ∧
      (s.station.powered = true → ∃ t, exec (.pinReset p) s = .next t ∧ t.station.pour.freeze = false)) ∧
  (∀ (p : Pins) (s : State), s.station.powered = true → s.station.req.restart = some .done →
    s.station.nv.setupWrite = none → s.station.link.tx = none →
    ∃ t, exec (.restartBegin p) s = .next t ∧ t.station.pour.freeze = false) ∧
  (∀ (x y : Option (BitVec 5)) (s : State), s.station.start.phase = .checking → s.station.start.role ≠ .follower →
    imageValid 146 s.station.nv.image = true →
    ∃ t, exec (.referenceCheckDone x y) s = .next t ∧
      t.station.keg.tapLock = (Rec.ofImage s.station.nv.image).tapLock)

/-- An accepted RESUME returns the station from SAFE_HOLD to NORMAL: the saved run state and service state come back,
H clears, the kind becomes none, the log entry is closed, FAULT is released and a notice with NORMAL is placed. Five
minutes of clearance resume the station from SAFE_HOLD as RESUME does. An accepted RELEASE_LOCKOUT with no condition
standing returns the station to NORMAL with the program PAUSED and pours SERVING; where conditions stand, the first of
the five in their order is taken as a first fault, and a second one takes the station into LOCKOUT again. The
clearance is taken where its timer runs, and the hold clock stops as its hold ends (the model's choices, log 1, log
58). -/
def Obligations.StationReturnsToNormal : Prop :=
  (∀ (k : FaultKind) (s : State), s.station.admitsOwn → s.station.exc.state = .safeHold →
    s.station.exc.kind = some k → s.station.exc.conflict = false → s.station.stands k = false →
    (k = .kegLost → s.station.sense.keg = true) →
    ∃ t, exec (.resume []) s = .next t ∧ t.pending = s.pending ∧
      t.station.exc =
        { s.station.exc with
          state := .normal, h := false, kind := none, saved := {}, clearMs := none, holdMs := none
          log := t.station.exc.log } ∧
      t.station.exc.log.length = s.station.exc.log.length ∧
      t.station.exc.log.getLast? =
        (s.station.exc.log.getLast?.map fun e =>
          { e with clearedAt := some (e.minute + min 65535 (s.station.exc.holdMs.getD 0 / 60000)) }) ∧
      t.station.faultLine = false ∧
      t.station.link.exc =
        s.station.link.exc.place (s.station.link.tx == some .excursion)
          { role := s.station.roleCarried, state := .normal, kind := none } ∧
      (∀ b, s.station.keg.batch = some b → t.station.keg.batch = some { b with run := s.station.exc.saved.run }) ∧
      t.station.pour.serving = s.station.exc.saved.serving ∧
      t.station.link.replies = s.station.link.replies ++ [{ code := 12 }] ∧ t.station.start = s.station.start ∧
      t.station.sense = s.station.sense ∧ t.station.nv = s.station.nv) ∧
  (∀ (n : Nat) (s : State), s.station.powered = true → s.station.exc.state = .safeHold →
    s.station.exc.clearMs = some n →
    ∃ t, exec .clearanceTimerExpiry s = .next t ∧ t.pending = s.pending ∧ t.station.exc.state = .normal ∧
      t.station.exc.h = false ∧ t.station.exc.kind = none ∧ t.station.exc.clearMs = none ∧
      t.station.exc.saved = {} ∧ t.station.faultLine = false ∧
      t.station.pour.serving = s.station.exc.saved.serving ∧
      (∀ b, s.station.keg.batch = some b → t.station.keg.batch = some { b with run := s.station.exc.saved.run })) ∧
  (∀ s : State, s.station.admitsOwn → s.station.exc.state = .lockout → s.station.start.phase = .running →
    s.station.exc.conflict = false → (s.station.keg.batch.isSome = true → s.station.sense.keg = true) →
    (s.station.exc.overtemp = false → s.station.exc.undertemp = false → s.station.exc.overpressure = false →
      s.station.exc.probeLost = false → s.station.exc.linkMute = false →
      ∃ t, exec (.releaseLockout []) s = .next t ∧ t.pending = s.pending ∧
        t.station.exc =
          { s.station.exc with
            state := .normal, h := false, kind := none, saved := {}, clearMs := none, holdMs := none
            log := t.station.exc.log } ∧
        (∀ b, s.station.keg.batch = some b → t.station.keg.batch = some { b with run := false }) ∧
        t.station.pour.serving = true ∧
        t.station.link.replies = s.station.link.replies ++ [{ code := 13 }] ∧ t.station.start = s.station.start ∧
        t.station.sense = s.station.sense ∧ t.station.nv = s.station.nv) ∧
    (∀ k l,
      [FaultKind.overtemp, .undertemp, .overpressure, .probeLost, .linkMute].filter (fun k => s.station.stands k) =
        k :: l →
      ∃ t, exec (.releaseLockout []) s = .next t ∧ t.pending = s.pending ∧ t.station.exc.h = true ∧
        t.station.exc.holdMs = some 0 ∧ t.station.exc.saved = { run := false, serving := true } ∧
        t.station.faultLine = true ∧
        (l = [] →
          t.station.exc.state = .safeHold ∧ t.station.exc.kind = some k ∧ t.station.pour.serving = false) ∧
        (∀ k' l', l = k' :: l' →
          t.station.exc.state = .lockout ∧ t.station.exc.kind = some k' ∧ t.station.pour.queue = [])))

/-- An accepted LEAK_TEST starts the test of its clamped minutes from the pressure, temperature and batch minute that
stand, with the vent and the gas valve closed and a GAS demand of 0. An accepted ABORT_TEST ends the running test
ABORTED: its descriptor joins the log after the newest, without a decay, and TEST_DONE sets; the LEAK attribute is not
measured. A leak test at its time: the decay is corrected for temperature, the rate decides PASS or FAIL, the descriptor
and the LEAK attribute take it, TEST_DONE sets, and a rate above 6 kPa per hour is a LEAK fault. The end is taken where
a test runs (the model's choice, log 1). -/
def Obligations.LeakTestsStartAndEnd : Prop :=
  (∀ (m : Byte) (b : Batch) (x : Int) (s : State), s.station.admitsOwn → s.station.exc.state = .normal →
    s.station.exc.h = false → s.station.health.test = none → s.station.sense.keg = true →
    s.station.keg.batch = some b → s.station.pour.active = none → s.station.pour.drain = none →
    50 ≤ s.station.sense.p → s.station.tAvg = some x → s.station.sense.beer.state = .ok →
    ∃ t, exec (.leakTest [m]) s = .next t ∧ t.pending = s.pending ∧
      t.station.health =
        { s.station.health with
          test := some
            { minutes := clampNat 5 60 m.toNat, startP := s.station.sense.p
              startAbs := s.station.sense.p + s.station.start.setup.pa, startT := x, startMin := b.batchMin } } ∧
      t.station.press.vent = false ∧ t.station.press.gas = false ∧ t.station.pools.items.gas.posted = {} ∧
      t.station.link.replies = s.station.link.replies ++ [{ code := 14 }] ∧ t.station.start = s.station.start ∧
      t.station.sense = s.station.sense ∧ t.station.keg = s.station.keg ∧ t.station.pour = s.station.pour ∧
      t.station.exc = s.station.exc ∧ t.station.nv = s.station.nv ∧ t.station.req = s.station.req) ∧
  (∀ (u : LeakTest) (n : Nat) (s : State), s.station.admitsOwn → s.station.health.test = some u →
    n = (if s.station.health.newest = 8 then 1 else s.station.health.newest + 1) →
    ∃ t, exec (.abortTest []) s = .next t ∧ t.pending = s.pending ∧
      t.station.health =
        { s.station.health with
          test := none
          newest := n
          log := s.station.health.log.set (n - 1)
            (some { startMin := u.startMin, minutes := u.ms / 60000, startP := u.startP
                    endP := s.station.sense.p, outcome := .aborted, decay := none }) } ∧
      t.station.flag .testDone = true ∧
      t.station.link.replies = s.station.link.replies ++ [{ code := 15 }] ∧ t.station.start = s.station.start ∧
      t.station.sense = s.station.sense ∧ t.station.keg = s.station.keg ∧ t.station.pour = s.station.pour ∧
      t.station.exc = s.station.exc ∧ t.station.nv = s.station.nv) ∧
  (∀ (u : LeakTest) (x d : Int) (r n : Nat) (s : State), s.station.powered = true → s.station.health.test = some u →
    s.station.exc.state = .normal → s.station.exc.h = false → s.station.tAvg = some x →
    d = ((u.startAbs : Int) * (x + 2732)).tdiv (u.startT + 2732) -
      (s.station.sense.p + s.station.start.setup.pa : Nat) →
    r = (if d ≤ 0 then 0 else d.toNat * 60 / u.minutes) →
    n = (if s.station.health.newest = 8 then 1 else s.station.health.newest + 1) →
    ∃ t, exec .leakTestTimerExpiry s = .next t ∧ t.pending = s.pending ∧ t.station.health.test = none ∧
      t.station.health.newest = n ∧
      t.station.health.log =
        s.station.health.log.set (n - 1)
          (some { startMin := u.startMin, minutes := u.minutes, startP := u.startP, endP := s.station.sense.p
                  outcome := if r ≤ 6 then .pass else .fail, decay := some d }) ∧
      t.station.health.leak.cur = some r ∧
      t.station.health.leak.state = (if r ≤ 4 then .ok else if r ≤ 6 then .warn else .tripped) ∧
      t.station.flag .testDone = true ∧ t.station.sense = s.station.sense ∧ t.station.start = s.station.start ∧
      (r ≤ 6 → t.station.exc = s.station.exc) ∧
      (6 < r → t.station.exc.state = .safeHold ∧ t.station.exc.kind = some .leak))

/-- An accepted WRITE_SETUP puts the contents in flight as they were sent; the applied setup stays, and until the write
completes the stored block does not check. The commit timer's end starts a commit of a DIRTY record; a setup write's end
leaves the block as it was sent, with its CRC; a minute of the batch is counted where the record holds a batch and H is
clear. An expiry is taken where its timer runs (the model's choice, log 1), and what the block holds meanwhile is the
model's too (log 14). -/
def Obligations.RecordTimersAndSetupWrites : Prop :=
  (∀ (a : List Byte) (s : State), s.station.admits → a.length = 17 → s.station.nv.setupWrite = none →
    ∃ t, exec (.writeSetup a) s = .next t ∧ t.pending = s.pending ∧ t.station.nv.setupWrite = some a ∧
      imageValid 17 t.station.nv.setupBlock = false ∧ t.station.nv.image = s.station.nv.image ∧
      { t.station with nv := s.station.nv } = s.station.withReply 17 .ok) ∧
  (∀ s : State, s.station.powered = true →
    (∀ n, s.station.keg.timerMs = some n → s.station.keg.persist = .dirty → s.station.keg.commit = none →
      s.station.keg.loaded = true → s.station.start.role ≠ .follower → s.station.req.restart = none →
      ∃ t, exec .commitTimerExpiry s = .next t ∧ t.pending = s.pending ∧
        t.station.keg.commit = some { snap := ⟨s.station.keg.batch, s.station.keg.tapLock⟩ } ∧
        t.station.keg.timerMs = none ∧ { t.station with keg := s.station.keg, nv := s.station.nv } = s.station) ∧
    (∀ l, s.station.nv.setupWrite = some l →
      exec .setupWriteComplete s =
        .next ⟨{ s.station with
                 nv.setupBlock := l ++ be16 (crcBytes l).toNat
                 nv.setupWrite := none }, s.pending⟩) ∧
    (∀ b, s.station.keg.batch = some b → s.station.exc.h = false →
      ∃ t, exec .batchMinuteRise s = .next t ∧ t.pending = s.pending ∧
        t.station.keg.batch = some { b with batchMin := min 16777215 (b.batchMin + 1) } ∧ t.station.keg.secs = 0 ∧
        { t.station with keg := s.station.keg } = s.station))

/-- QUERY is answered in every station state, also by a follower and while a restart is pending; it changes nothing but
the reply list. The answer to STATUS opens with the status head and fits the 16 parts of a reply; a value that names no
item is refused. The layout of the full status is partly the model's reading (log 11). -/
def Obligations.QueryAnswersAndChangesNothing : Prop :=
  ∀ (x : Byte) (s : State), s.station.takes →
    (x.toNat ≤ 8 →
      ∃ ans, exec (.query [x]) s =
          .next ⟨{ s.station with
                   link.replies := s.station.link.replies ++ [{ code := 18, answer := some ans }] }, s.pending⟩ ∧
        (x = 0 → ∃ l, ans = .status l ∧ l.take 16 = statusHead s.station ∧ l.length ≤ 208) ∧
        (x = 3 → ans = .faultLog s.station.exc.log.length s.station.exc.log) ∧
        (x = 4 → ans = .testLog s.station.health.newest s.station.health.log) ∧
        (x = 6 → ans = .peerView (1 + s.station.pools.peers.length) s.station.pools.peers) ∧
        (x = 8 → ans = .recentPours s.station.pour.recent)) ∧
    (9 ≤ x.toNat → exec (.query [x]) s = .next ⟨s.station.withReply 18 .badLength, s.pending⟩)

/-- CLEAR_EVENTS clears the named flags and no other, and for KEG_CHANGED takes the debounced keg state as acknowledged;
the report cause set and a report placed stay. With a wrong number of bytes, or while a restart is pending, it is
refused. -/
def Obligations.ClearEventsClearsTheNamedFlags : Prop :=
  (∀ (x y z : Byte) (f : FlagSet) (s : State), s.station.admits →
    f = BitVec.ofNat 20 (x.toNat + 256 * y.toNat + 65536 * z.toNat) →
    exec (.clearEvents [x, y, z]) s =
      .next ⟨{ s.station with
               req.flags := s.station.req.flags &&& ~~~f
               sense.ackKeg := if f.getLsbD 0 then s.station.sense.keg else s.station.sense.ackKeg }.withReply 19 .ok,
             s.pending⟩) ∧
  (∀ (a : List Byte) (s : State), s.station.takes → a.length ≠ 3 →
    exec (.clearEvents a) s = .next ⟨s.station.withReply 19 .badLength, s.pending⟩) ∧
  (∀ (a : List Byte) (s : State), s.station.takes → a.length = 3 → s.station.req.restart.isSome = true →
    exec (.clearEvents a) s = .next ⟨s.station.withReply 19 .badState, s.pending⟩)

/-- SET_REPORT_MASK replaces the whole mask, one mark for each flag, in every station state and on a follower, and
changes nothing else but the reply list. With a wrong number of bytes, or while a restart is pending, it is refused. A
flag newly set with its mark enabled places a report whose cause set holds it; one already set, or with its mark clear,
places none. After power-on and pin reset every mark is enabled, and a restart keeps the mask. -/
def Obligations.ReportMaskIsReplacedWhole : Prop :=
  (∀ (x y z : Byte) (s : State), s.station.admits →
    exec (.setReportMask [x, y, z]) s =
      .next ⟨{ s.station with
               req.mask := BitVec.ofNat 20 (x.toNat + 256 * y.toNat + 65536 * z.toNat) }.withReply 20 .ok,
             s.pending⟩) ∧
  (∀ (a : List Byte) (s : State), s.station.takes → a.length ≠ 3 →
    exec (.setReportMask a) s = .next ⟨s.station.withReply 20 .badLength, s.pending⟩) ∧
  (∀ (a : List Byte) (s : State), s.station.takes → a.length = 3 → s.station.req.restart.isSome = true →
    exec (.setReportMask a) s = .next ⟨s.station.withReply 20 .badState, s.pending⟩) ∧
  (∀ (f : Flag) (s : Station),
    (s.flag f = true → setFlag f s = s) ∧
    (s.flag f = false → s.req.mask &&& f.bit = 0 →
      setFlag f s = { s with req.flags := s.req.flags ||| f.bit }) ∧
    (s.flag f = false → s.req.mask &&& f.bit = f.bit →
      (setFlag f s).req =
          { s.req with
            flags := s.req.flags ||| f.bit
            cause := s.req.cause ||| f.bit
            joined := if s.link.tx = some .event then s.req.joined ||| f.bit else s.req.joined } ∧
        ∃ r, (setFlag f s).link.evt = s.link.evt.place (s.link.tx == some .event) r ∧
          r.cause = s.req.cause ||| f.bit)) ∧
  (∀ (p : Pins) (s : State),
    (∃ t, exec (.powerOn p) s = .next t ∧ t.station.req.mask = 0xFFFFF) ∧
      (s.station.powered = true → ∃ t, exec (.pinReset p) s = .next t ∧ t.station.req.mask = 0xFFFFF)) ∧
  (∀ (p : Pins) (s : State), s.station.powered = true → s.station.req.restart = some .done →
    s.station.nv.setupWrite = none → s.station.link.tx = none →
    ∃ t, exec (.restartBegin p) s = .next t ∧ t.station.req.mask = s.station.req.mask)

/-- An accepted RESTART with nothing queued and no test: the mark sets and the image work begins. A follower, and a
CLEAN record with no commit in flight, need none; a commit in flight is waited for; else the final commit starts. With
orders queued and a test running, each order ends RESTARTED and the test ends. The commit waited for completes: a record
then CLEAN needs no more, and any other starts the final commit, after whose completion the work is done. A pending
restart whose work is done begins step 1: the logs, worst values, overdraw count, recent pours and report mask are kept,
and the flags, the assembly, the restart mark, the holdings and the excursion are not. That the beginning is a step of
its own is the model's choice (log 6), as are the budgets, the setup and the record before steps 3 and 4 (log 12). -/
def Obligations.RestartsWaitForTheImageAndKeepTheLogs : Prop :=
  (∀ s : State, s.station.admits → s.station.pour.active = none → s.station.pour.drain = none →
    s.station.pour.queue = [] → s.station.health.test = none →
    (s.station.start.role = .follower ∨ (s.station.keg.commit = none ∧ s.station.keg.persist = .clean) →
      exec (.restart []) s =
        .next ⟨{ s.station with req.restart := some .done }.withReply 21 .ok, s.pending⟩) ∧
    (s.station.start.role ≠ .follower → s.station.keg.commit.isSome = true →
      exec (.restart []) s =
        .next ⟨{ s.station with
                 req.restart := some .waitFirst
                 keg.pendingMark := true }.withReply 21 .ok, s.pending⟩) ∧
    (s.station.start.role ≠ .follower → s.station.keg.commit = none → s.station.keg.persist ≠ .clean →
      ∃ t, exec (.restart []) s = .next t ∧ t.pending = s.pending ∧ t.station.req.restart = some .final ∧
        t.station.keg.commit = some { snap := ⟨s.station.keg.batch, s.station.keg.tapLock⟩ } ∧
        t.station.link.replies = s.station.link.replies ++ [{ code := 21 }])) ∧
  (∀ s : State, s.station.admits → s.station.pour.active = none → s.station.pour.drain = none →
    ∃ t, exec (.restart []) s = .next t ∧ t.pending = s.pending ∧ t.station.req.restart.isSome = true ∧
      t.station.pour.queue = [] ∧ t.station.health.test = none ∧
      (s.station.health.test.isSome = true → t.station.flag .testDone = true) ∧
      t.station.pour.recent =
        ((s.station.pour.queue.map fun o =>
            { tag := o.tag, kind := o.kind, requested := o.volume, delivered := 0, duration := 0
              outcome := .restarted : PourReport }).reverse ++ s.station.pour.recent).take
          (if s.station.pour.queue = [] then s.station.pour.recent.length else 4) ∧
      t.station.link.replies = s.station.link.replies ++ [{ code := 21 }]) ∧
  (∀ (c : Commit) (s : State), s.station.powered = true → s.station.keg.commit = some c →
    (s.station.req.restart = some .waitFirst →
      ∃ t, exec .commitComplete s = .next t ∧ t.pending = s.pending ∧
        (s.station.keg.batch.isSome = true → c.startedSince = false → s.station.keg.changeMark = false →
          t.station.req.restart = some .done ∧ t.station.keg.commit = none ∧ t.station.keg.persist = .clean ∧
            t.station.nv.image = c.snap.image) ∧
        (s.station.keg.batch = none ∨ c.startedSince = true ∨ s.station.keg.changeMark = true →
          t.station.req.restart = some .final ∧
            t.station.keg.commit = some { snap := ⟨s.station.keg.batch, s.station.keg.tapLock⟩ } ∧
            t.station.keg.timerMs = none ∧ imageValid 146 t.station.nv.image = false) ∧
        t.station.keg.batch = s.station.keg.batch ∧
        { t.station with keg := s.station.keg, nv := s.station.nv, req := s.station.req } = s.station) ∧
    (s.station.req.restart = some .final →
      ∃ t, exec .commitComplete s = .next t ∧ t.pending = s.pending ∧ t.station.req.restart = some .done ∧
        t.station.keg.commit = none ∧ t.station.nv.image = c.snap.image ∧
        t.station.keg.batch = s.station.keg.batch ∧
        (t.station.keg.persist = .clean ↔
          s.station.keg.batch.isSome = true ∧ c.startedSince = false ∧ s.station.keg.changeMark = false) ∧
        { t.station with keg := s.station.keg, nv := s.station.nv, req := s.station.req } = s.station)) ∧
  (∀ (p : Pins) (s : State), s.station.powered = true → s.station.req.restart = some .done →
    s.station.nv.setupWrite = none → s.station.link.tx = none →
    ∃ t, exec (.restartBegin p) s = .next t ∧ t.pending = s.pending ∧
      t.station.exc = { log := s.station.exc.log } ∧
      t.station.health.log = s.station.health.log ∧ t.station.health.newest = s.station.health.newest ∧
      t.station.health.leak = { worst := s.station.health.leak.worst } ∧
      t.station.health.chill = { worst := s.station.health.chill.worst } ∧
      t.station.health.gasPerL = { worst := s.station.health.gasPerL.worst } ∧
      t.station.health.linkQ = { worst := s.station.health.linkQ.worst } ∧
      t.station.health.test = none ∧
      t.station.pools = { overdrawHold := p.overdraw, overdraws := s.station.pools.overdraws } ∧
      t.station.pour = { recent := s.station.pour.recent } ∧
      t.station.req = { mask := s.station.req.mask, flags := t.station.req.flags, cause := t.station.req.cause } ∧
      (p.pair = 0 → t.station.req.flags = 0 ∧ t.station.req.cause = 0) ∧
      t.station.link = { evt := t.station.link.evt } ∧ t.station.keg = {} ∧ t.station.press = {} ∧
      t.station.nv = s.station.nv ∧
      t.station.start = { id := p.id.toNat, pair := p.pair.toNat, role := t.station.start.role })

/-! ## Pour service and sensing -/

/-- A pour closed with its tap open shuts the tap, fixes its outcome and duration, leaves the queue if it is an order,
and begins a drain window of 1 s: by a handle press (an order), a handle release (a manual pour), its time limit, foam,
or a cancel. The record is written only when the window ends. The time limit and the foam time are taken to have run out
whatever the pour has counted (the model's choice, log 1). -/
def Obligations.OpenPourClosesIntoItsDrainWindow : Prop :=
  ∀ (a : ActivePour) (s : State), s.station.powered = true → s.station.pour.active = some a →
    s.station.pour.tap = true →
    (∀ (c : Instr) (out : PourOutcome) (d : Nat),
      (∃ n, 16 ≤ n ∧ c = .handlePress n ∧ out = .stoppedByHandle ∧ d = min 65535 (a.ms / 100) ∧
          s.station.sense.handle = false ∧ s.station.start.role ≠ .follower ∧ a.tag ≠ 0) ∨
        (∃ n, 16 ≤ n ∧ c = .handleRelease n ∧ out = .done ∧ d = min 65535 (a.ms / 100) ∧
          s.station.sense.handle = true ∧ a.tag = 0) ∨
        (c = .pourTimeLimitExpiry ∧ out = .timeout ∧ d = min 65535 (a.limitS * 10)) ∨
        (c = .foamTimeExpiry ∧ out = .foam ∧ d = min 65535 (a.ms / 100) ∧ a.foamMs.isSome = true) ∨
        (∃ tag : Byte, c = .cancelPour [tag] ∧ out = .cancelled ∧ d = min 65535 (a.ms / 100) ∧
          s.station.admitsOwn ∧ a.tag = tag.toNat ∧ (tag ≠ 0 → s.station.tagHeld tag.toNat = true)) →
      ∃ t, exec c s = .next t ∧ t.pending = s.pending ∧
        t.station.pour =
          { s.station.pour with
            active := none
            tap := false
            queue := if a.tag = 0 then s.station.pour.queue else s.station.pour.queue.drop 1
            drain := some
              { tag := a.tag, kind := a.kind, requested := a.requested, startCount := a.startCount, outcome := out
                duration := d, atClose := a.delivered, delivered := a.delivered, everActive := a.everActive } } ∧
        t.station.press.primReq = false ∧ t.station.press.holdReq = false ∧ t.station.keg = s.station.keg ∧
        t.station.nv = s.station.nv ∧ t.station.exc = s.station.exc ∧ t.station.start = s.station.start ∧
        t.station.health = s.station.health ∧ t.station.req = s.station.req)

/-- A pour that waits in PRIMING for 20 s, or in PAUSED for 10 s, with its tap closed closes LOW_PRESSURE and completes
in the same event: one write of three record fields, and one report at the front of the recent list. At the end of the
drain window the pour completes: the record takes the delivered volume in one write, the drain amount joins the coast
history, and the report is made. The foam run rises at FOAM and returns to 0 otherwise. The third foaming pour in a row
that finds less than a tenth of the fill left declares the keg empty: the flag sets, nothing remains, the total stands,
every queued order ends, and KEG_EMPTY sets; one that fails the test returns the run to 0. The expiries and the window's
end are taken whatever has been counted (the model's choice, log 1). -/
def Obligations.PoursCompleteInOneWrite : Prop :=
  (∀ (a : ActivePour) (s : State), s.station.powered = true → s.station.pour.active = some a →
    s.station.pour.tap = false →
    (∀ c : Instr, (c = .primingExpiry ∧ a.stage = .priming) ∨ (c = .pauseExpiry ∧ a.stage = .paused) →
      ∃ t, exec c s = .next t ∧ t.pending = s.pending ∧
        t.station.pour.queue = (if a.tag = 0 then s.station.pour.queue else s.station.pour.queue.drop 1) ∧
        t.station.pour.drain = none ∧ t.station.pour.coast = s.station.pour.coast ∧
        t.station.pour.recent =
          ({ tag := a.tag, kind := a.kind, requested := a.requested, delivered := a.delivered
             duration := min 65535 (a.ms / 100), outcome := .lowPressure : PourReport } ::
            s.station.pour.recent).take 4 ∧
        t.station.keg.batch =
          (s.station.keg.batch.map fun b =>
            { b with
              remaining := b.remaining - a.delivered
              total := min 4294967295 (b.total + a.delivered)
              pours := min 65535 (b.pours + 1) }) ∧
        t.station.exc = s.station.exc ∧ t.station.start = s.station.start ∧ t.station.sense = s.station.sense ∧
        t.station.nv = s.station.nv)) ∧
  (∀ (d : DrainPour) (s : State), s.station.powered = true → s.station.pour.drain = some d →
    (d.outcome ≠ .foam ∨ s.station.pour.foamRun < 2 ∨ s.station.keg.batch = none ∨
      ∃ b, s.station.keg.batch = some b ∧ (b.kegEmpty = true ∨ b.fill ≤ 10 * (b.remaining - d.delivered))) →
    ∃ t, exec .drainWindowEnd s = .next t ∧ t.pending = s.pending ∧
      t.station.pour.drain = none ∧ t.station.pour.queue = s.station.pour.queue ∧
      t.station.pour.coast =
        s.station.pour.coast.drop 1 ++ [min 65535 (d.delivered - d.atClose)] ∧
      t.station.pour.foamRun =
        (if d.everActive then
            (if d.outcome = .foam ∧ s.station.pour.foamRun < 2 then s.station.pour.foamRun + 1 else 0)
          else s.station.pour.foamRun) ∧
      t.station.pour.recent =
        ({ tag := d.tag, kind := d.kind, requested := d.requested, delivered := d.delivered, duration := d.duration
           outcome := d.outcome : PourReport } :: s.station.pour.recent).take 4 ∧
      t.station.keg.batch =
        (s.station.keg.batch.map fun b =>
          { b with
            remaining := b.remaining - d.delivered
            total := min 4294967295 (b.total + d.delivered)
            pours := min 65535 (b.pours + 1) }) ∧
      t.station.exc = s.station.exc ∧ t.station.start = s.station.start ∧ t.station.sense = s.station.sense ∧
      t.station.nv = s.station.nv) ∧
  (∀ (d : DrainPour) (b : Batch) (s : State), s.station.powered = true → s.station.pour.drain = some d →
    s.station.pour.active = none → d.everActive = true → d.outcome = .foam → s.station.pour.foamRun = 2 →
    s.station.keg.batch = some b → b.kegEmpty = false → 10 * (b.remaining - d.delivered) < b.fill →
    ∃ t b', exec .drainWindowEnd s = .next t ∧ t.pending = s.pending ∧ t.station.keg.batch = some b' ∧
      b'.kegEmpty = true ∧ b'.remaining = 0 ∧ b'.total = min 4294967295 (b.total + d.delivered) ∧
      t.station.flag .kegEmpty = true ∧ t.station.pour.queue = [] ∧ t.station.pour.foamRun = 0 ∧
      t.station.pour.active = none ∧ t.station.pour.drain = none)

/-- A handle press starts an ON_HANDLE head that may start, and with an empty queue in SERVE a manual pour of tag 0 with
a limit of 50 s; with the tap locked, or on a follower, it does nothing but change the switch. A release with no manual
pour does nothing but change the switch. A level that has not held for 16 ms is no press and no release (the operand is
the model's, log 23). -/
def Obligations.HandleStartsAPour : Prop :=
  ∀ (n : Nat) (s : State), s.station.powered = true →
    (n < 16 → exec (.handlePress n) s = .next s ∧ exec (.handleRelease n) s = .next s) ∧
    (16 ≤ n → s.station.sense.handle = false → s.station.start.role ≠ .follower → s.station.mayStart = true →
      (∀ o l, s.station.pour.queue = o :: l → o.start = .onHandle →
        ∃ t a, exec (.handlePress n) s = .next t ∧ t.pending = s.pending ∧ t.station.pour.active = some a ∧
          a.tag = o.tag ∧ a.requested = o.volume ∧ t.station.pour.queue = s.station.pour.queue ∧
          t.station.sense = { s.station.sense with handle := true } ∧ t.station.keg = s.station.keg) ∧
      (s.station.pour.queue = [] → s.station.recPhase = .serve →
        ∃ t a, exec (.handlePress n) s = .next t ∧ t.pending = s.pending ∧ t.station.pour.active = some a ∧
          a.tag = 0 ∧ a.kind = .glass ∧ a.closeLevel = none ∧ a.limitS = 50 ∧
          t.station.sense = { s.station.sense with handle := true } ∧ t.station.keg = s.station.keg)) ∧
    (16 ≤ n → s.station.sense.handle = false →
      s.station.start.role = .follower ∨ (s.station.keg.tapLock = true ∧ s.station.orderInProgress = false) →
      exec (.handlePress n) s = .next ⟨{ s.station with sense.handle := true }, s.pending⟩) ∧
    (16 ≤ n → s.station.sense.handle = true → s.station.pour.active = none →
      exec (.handleRelease n) s = .next ⟨{ s.station with sense.handle := false }, s.pending⟩)

/-- A pulse of 200 µs or more whose rising edge came after the start is counted, and the count of all ones returns to 0,
whatever the tap and the station state; any other pulse is ignored entirely. Each start sets the counter to 0. -/
def Obligations.PulsesAreCountedByTheirWidth : Prop :=
  (∀ (w : Nat) (early : Bool) (s : State), s.station.powered = true →
    ∃ t, exec (.flowPulse w early) s = .next t ∧ t.pending = s.pending ∧
      (200 ≤ w → early = false →
        t.station.sense =
          { s.station.sense with pulses := s.station.sense.pulses + 1, bin := s.station.sense.bin + 1 } ∧
        (s.station.pour.active = none → s.station.pour.drain = none →
          t.station = { s.station with sense := t.station.sense }) ∧
        (s.station.sense.pulses = 4294967295 → t.station.sense.pulses = 0) ∧
        (s.station.sense.pulses ≠ 4294967295 →
          t.station.sense.pulses.toNat = s.station.sense.pulses.toNat + 1)) ∧
      (w < 200 ∨ early = true → t = s)) ∧
  (∀ (p : Pins) (s : State),
    (∃ t, exec (.powerOn p) s = .next t ∧ t.station.sense.pulses = 0) ∧
      (s.station.powered = true → ∃ t, exec (.pinReset p) s = .next t ∧ t.station.sense.pulses = 0)) ∧
  (∀ (p : Pins) (s : State), s.station.powered = true → s.station.req.restart = some .done →
    s.station.nv.setupWrite = none → s.station.link.tx = none →
    ∃ t, exec (.restartBegin p) s = .next t ∧ t.station.sense.pulses = 0)

/-- A counted pulse measures the active order afresh over its whole pulse count, modulo 2^32; below its close level
the pour goes on, and at it the pour closes DONE into its drain window. A pulse in PRIMING or PAUSED, or of a manual
pour, raises the delivered volume and closes nothing, and one in the drain window belongs to the pour that has closed.
At the end of a bin the oldest of the ten leaves and the current one joins; the rate is of the ten newest. An ACTIVE
pour's foam time starts, rises by 100 ms, or stops by twice the nominal flow. The cap of the volume at 65535, the
split of the window and the hold of the foam time at 2,000 ms are the model's choices (log 25, log 26, log 42). -/
def Obligations.FlowIsMeteredAndRated : Prop :=
  (∀ (w v lvl : Nat) (a : ActivePour) (s : State), s.station.powered = true → 200 ≤ w →
    s.station.pour.active = some a → a.stage = .active → a.closeLevel = some lvl → s.station.pour.tap = true →
    s.station.pour.drain = none →
    v = min 65535
      ((s.station.sense.pulses + 1 - a.startCount).toNat * 1000 / s.station.start.setup.k) →
    ∃ t, exec (.flowPulse w false) s = .next t ∧ t.pending = s.pending ∧
      (v < lvl →
        t.station =
          { s.station with
            sense := t.station.sense
            pour.active := some { a with delivered := v } }) ∧
      (lvl ≤ v →
        t.station.pour.active = none ∧ t.station.pour.tap = false ∧
          ∃ d, t.station.pour.drain = some d ∧ d.outcome = .done ∧ d.delivered = v ∧ d.atClose = v ∧ d.tag = a.tag) ∧
      t.station.keg = s.station.keg ∧ t.station.start = s.station.start ∧ t.station.exc = s.station.exc) ∧
  (∀ (w v : Nat) (s : State), s.station.powered = true → 200 ≤ w →
    (∀ a, s.station.pour.active = some a → s.station.pour.drain = none →
      a.stage ≠ .active ∨ a.closeLevel = none →
      v = min 65535 ((s.station.sense.pulses + 1 - a.startCount).toNat * 1000 / s.station.start.setup.k) →
      exec (.flowPulse w false) s =
        .next ⟨{ s.station with
                 sense.pulses := s.station.sense.pulses + 1
                 sense.bin := s.station.sense.bin + 1
                 pour.active := some { a with delivered := v } }, s.pending⟩) ∧
    (∀ d, s.station.pour.drain = some d → s.station.pour.active = none →
      v = min 65535 ((s.station.sense.pulses + 1 - d.startCount).toNat * 1000 / s.station.start.setup.k) →
      exec (.flowPulse w false) s =
        .next ⟨{ s.station with
                 sense.pulses := s.station.sense.pulses + 1
                 sense.bin := s.station.sense.bin + 1
                 pour.drain := some { d with delivered := v } }, s.pending⟩)) ∧
  (∀ (bins : List Nat) (s : State), s.station.powered = true →
    bins = s.station.sense.bins.drop 1 ++ [s.station.sense.bin] →
    ∃ t, exec .rateBinEnd s = .next t ∧ t.pending = s.pending ∧
      t.station.sense =
        { s.station.sense with bins := bins, bin := 0, rate := bins.sum * 1000 / s.station.start.setup.k } ∧
      { t.station with sense := s.station.sense, pour.active := s.station.pour.active } = s.station ∧
      t.station.pour.active =
        (s.station.pour.active.map fun a =>
          if a.stage = .active then
            { a with
              foamMs :=
                if 2 * s.station.start.setup.nominal < t.station.sense.rate then
                  some (match a.foamMs with | none => 0 | some n => min 2000 (n + 100))
                else none }
          else a))

/-- A completed pressure conversion brings P into 0 to 400; above Pr + 30 it asserts OVERPRESSURE on a station that has
a head-pressure role, and at Pr or below it withdraws it. One that does not complete changes nothing. P below the floor
pauses an ACTIVE pour with the tap shut; P at the floor and h brings a PAUSED one back. -/
def Obligations.PressureConversionsAreCheckedAndPause : Prop :=
  (∀ (v : Int) (p : Nat) (s : State), s.station.powered = true →
    exec (.pressureConversion none) s = .next s ∧
    (s.station.sense.sampling = true → p = (max 0 (min 400 v)).toNat →
      ∃ t, exec (.pressureConversion (some v)) s = .next t ∧ t.pending = s.pending ∧
        t.station.sense = { s.station.sense with p := p } ∧ t.station.start = s.station.start ∧
        (s.station.start.role ≠ .follower → s.station.start.setup.pr + 30 < p →
          t.station.exc.overpressure = true ∧
            (s.station.exc.overpressure = false → s.station.exc.state = .normal → s.station.exc.h = false →
              t.station.exc.state = .safeHold ∧ t.station.exc.kind = some .overpressure ∧ t.station.exc.h = true)) ∧
        (s.station.start.role ≠ .follower → p ≤ s.station.start.setup.pr →
          t.station.exc.overpressure = false ∧ t.station.exc.state = s.station.exc.state) ∧
        (s.station.start.role = .follower → t.station.exc = s.station.exc))) ∧
  (∀ (v : Int) (p : Nat) (a : ActivePour) (s : State), s.station.powered = true → s.station.sense.sampling = true →
    s.station.exc.overpressure = false → s.station.pour.active = some a → p = (max 0 (min 400 v)).toNat →
    p ≤ s.station.start.setup.pr →
    (a.stage = .active → p < s.station.start.setup.fp →
      ∃ t, exec (.pressureConversion (some v)) s = .next t ∧ t.station.pour.tap = false ∧
        t.station.pour.active = some { a with stage := .paused, stageMs := 0, foamMs := none } ∧
        t.station.pour.queue = s.station.pour.queue ∧ t.station.keg = s.station.keg) ∧
    (a.stage = .paused → s.station.start.setup.fp + s.station.start.setup.band ≤ p →
      (∀ l, a.closeLevel = some l → a.delivered < l) →
      ∃ t, exec (.pressureConversion (some v)) s = .next t ∧ t.station.pour.tap = true ∧
        t.station.pour.active = some { a with stage := .active, stageMs := 0 } ∧
        t.station.pour.queue = s.station.pour.queue ∧ t.station.keg = s.station.keg))

/-- A probe's sample: a completed conversion with its offset inside −300 to 500 is valid; the history takes it or is
filled with it, and the probe is OK; an invalid one from OK begins HOLDING with a timer of 30 s. The jacket probe's
sample touches nothing else. At the beer probe's sample time the temperature check is made: each timer counts a second
while its condition holds and returns to 0 where it does not; OVERTEMP stands from 10 minutes, or above 35.0 °C at
once, and UNDERTEMP from 60 s; both are withdrawn where neither T_avg with S nor a check is there. Either is taken as
a first fault, and its withdrawal under the active kind starts the clearance, as that of PROBE_LOST does at a valid
sample. A hold timer that runs out makes a HOLDING probe FAILED, whatever it has counted (the model's choice, log 1);
for the beer probe PROBE_LOST is asserted, and a station in NORMAL with H clear enters SAFE_HOLD for it. A timer that
does not run changes nothing. -/
def Obligations.ProbesFollowTheirStateTable : Prop :=
  (∀ (conv : Option Int) (s : State), s.station.powered = true → s.station.sense.sampling = true →
    (∀ q q' : Probe, q = s.station.sense.jacket →
      q' =
        (match (conv.bind fun x =>
            if -300 ≤ x + q.code - 16 ∧ x + q.code - 16 ≤ 500 then some (x + q.code - 16) else none) with
          | some x =>
              { q with
                hist := if q.state = .ok then q.hist.drop 1 ++ [x] else [x, x, x, x]
                state := .ok
                holdMs := if q.state = .ok then q.holdMs else none }
          | none => if q.state = .ok then { q with state := .holding, holdMs := some 0 } else q) →
      exec (.probeSample .jacket conv) s = .next ⟨{ s.station with sense.jacket := q' }, s.pending⟩) ∧
    (∀ q q' : Probe, q = s.station.sense.beer →
      q' =
        (match (conv.bind fun x =>
            if -300 ≤ x + q.code - 16 ∧ x + q.code - 16 ≤ 500 then some (x + q.code - 16) else none) with
          | some x =>
              { q with
                hist := if q.state = .ok then q.hist.drop 1 ++ [x] else [x, x, x, x]
                state := .ok
                holdMs := if q.state = .ok then q.holdMs else none }
          | none => if q.state = .ok then { q with state := .holding, holdMs := some 0 } else q) →
      ∃ t, exec (.probeSample .beer conv) s = .next t ∧ t.pending = s.pending ∧
        t.station.sense = { s.station.sense with beer := q' } ∧ t.station.start = s.station.start ∧
        (q'.state = .ok → t.station.exc.probeLost = false) ∧
        (q'.state = .ok → s.station.holdFor .probeLost = true → s.station.exc.probeLost = true →
          t.station.exc.overtemp = false → t.station.exc.undertemp = false →
          t.station.exc.state = .safeHold ∧ t.station.exc.kind = some .probeLost ∧
            t.station.exc.clearMs = some 0) ∧
        (∀ x, t.station.tAvg = some x → ∀ sp, s.station.setpoint = some sp →
          (s.station.start.role ≠ .follower ∨ s.station.prog.pair = .orphan) →
          t.station.exc.overS = (if sp + 40 < x then min 600 (s.station.exc.overS + 1) else 0) ∧
            t.station.exc.underS = (if x < -25 then min 60 (s.station.exc.underS + 1) else 0) ∧
            t.station.exc.overtemp = (decide (t.station.exc.overS = 600) || decide (350 < x)) ∧
            t.station.exc.undertemp = decide (t.station.exc.underS = 60) ∧
            (s.station.exc.state = .normal → s.station.exc.h = false → s.station.exc.overtemp = false →
              t.station.exc.overtemp = true → t.station.exc.undertemp = false →
              t.station.exc.state = .safeHold ∧ t.station.exc.kind = some .overtemp ∧ t.station.exc.h = true) ∧
            (s.station.exc.state = .normal → s.station.exc.h = false → s.station.exc.undertemp = false →
              t.station.exc.undertemp = true → t.station.exc.overtemp = false →
              t.station.exc.state = .safeHold ∧ t.station.exc.kind = some .undertemp ∧ t.station.exc.h = true) ∧
            (s.station.holdFor .overtemp = true → s.station.exc.overtemp = true → t.station.exc.overtemp = false →
              t.station.exc.undertemp = false →
              t.station.exc.state = .safeHold ∧ t.station.exc.clearMs = some 0) ∧
            (s.station.holdFor .undertemp = true → s.station.exc.undertemp = true →
              t.station.exc.undertemp = false → t.station.exc.overtemp = false →
              t.station.exc.state = .safeHold ∧ t.station.exc.clearMs = some 0)) ∧
        (t.station.tAvg = none ∨ s.station.setpoint = none ∨
            (s.station.start.role = .follower ∧ s.station.prog.pair ≠ .orphan) →
          t.station.exc.overS = 0 ∧ t.station.exc.underS = 0 ∧ t.station.exc.overtemp = false ∧
            t.station.exc.undertemp = false ∧ t.station.exc.state = s.station.exc.state))) ∧
  (∀ (n : Nat) (s : State), s.station.powered = true →
    (s.station.sense.jacket.state = .holding → s.station.sense.jacket.holdMs = some n →
      exec (.holdTimerExpiry .jacket) s =
        .next ⟨{ s.station with
                 sense.jacket.state := .failed
                 sense.jacket.holdMs := none }, s.pending⟩) ∧
    (s.station.sense.beer.state = .holding → s.station.sense.beer.holdMs = some n →
      ∃ t, exec (.holdTimerExpiry .beer) s = .next t ∧ t.pending = s.pending ∧
        t.station.sense =
          { s.station.sense with
            beer.state := .failed
            beer.holdMs := none } ∧
        t.station.exc.probeLost = true ∧ t.station.start = s.station.start ∧
        (s.station.exc.probeLost = false → s.station.exc.state = .normal → s.station.exc.h = false →
          t.station.exc.state = .safeHold ∧ t.station.exc.kind = some .probeLost)) ∧
    (s.station.sense.beer.holdMs = none → exec (.holdTimerExpiry .beer) s = .next s) ∧
    (s.station.sense.jacket.holdMs = none → exec (.holdTimerExpiry .jacket) s = .next s))

/-! ## The bay link -/

/-- At an idle with no frame of its own on the line, the station offers the first holding that waits, in the order of
the kinds; in MUTE the probe alone; and none once a pending restart's other work is done. From its first idle on it
hears frames; nothing else changes. A loss of arbitration leaves the frame where it was held with its retry count,
unless one held aside takes its slot; it is no drop. A bit error keeps the frame with its retry count one higher; with
three retries made it is dropped and counted, and a dropped reply part takes its whole entry. A frame held aside
replaces the one on the line, which is no drop. A dropped claim notice that a raise waits on asks for an extra notice
(the model's reading, log 17), a dropped probe leaves the station MUTE with its count one higher, and a presence notice
dropped in the window is placed again at the next boundary. That LINE_IDLE_OFFER is the idle a station waits for is the
model's choice (log 24). -/
def Obligations.FramesAreOfferedRetriedAndDropped : Prop :=
  (∀ s : State, s.station.powered = true → s.station.link.tx = none →
    (s.station.req.restart ≠ some .done ∨ s.station.nv.setupWrite ≠ none →
      exec .lineIdleOffer s =
        .next ⟨{ s.station with
                 link.idleSeen := true
                 link.tx :=
                   if s.station.link.mute = true then (if s.station.link.claim.held ≠ none then some .claim else none)
                   else if s.station.link.exc.held ≠ none then some .excursion
                   else if s.station.link.claim.held ≠ none then some .claim
                   else if s.station.link.pres.held ≠ none then some .presence
                   else if s.station.link.replies ≠ [] then some .reply
                   else if s.station.link.reports ≠ [] then some .pourReport
                   else if s.station.link.evt.held ≠ none then some .event
                   else none }, s.pending⟩) ∧
    (s.station.req.restart = some .done → s.station.nv.setupWrite = none →
      exec .lineIdleOffer s = .next ⟨{ s.station with link.idleSeen := true }, s.pending⟩)) ∧
  (∀ (l : Link) (s : State), s.station.powered = true →
    l = { s.station.link with tx := none, presLeft := none } →
    (s.station.link.tx = some .claim →
      exec .arbitrationLost s =
        .next ⟨{ s.station with
                 link :=
                   { l with
                     claim :=
                       match s.station.link.claim.aside with
                       | none => s.station.link.claim
                       | some x => { held := some x } } }, s.pending⟩) ∧
    (s.station.link.tx = some .excursion →
      exec .arbitrationLost s =
        .next ⟨{ s.station with
                 link :=
                   { l with
                     exc :=
                       match s.station.link.exc.aside with
                       | none => s.station.link.exc
                       | some x => { held := some x } } }, s.pending⟩) ∧
    (s.station.link.tx = some .presence → s.station.link.pres.aside = none →
      exec .arbitrationLost s = .next ⟨{ s.station with link := l }, s.pending⟩) ∧
    (s.station.link.tx = some .event → s.station.link.evt.aside = none →
      exec .arbitrationLost s = .next ⟨{ s.station with link := l, req.joined := 0 }, s.pending⟩) ∧
    (s.station.link.tx = some .reply ∨ s.station.link.tx = some .pourReport →
      exec .arbitrationLost s = .next ⟨{ s.station with link := l }, s.pending⟩)) ∧
  (∀ (l d : Link) (s : State), s.station.powered = true →
    l = { s.station.link with tx := none, presLeft := none } →
    d = { l with consec := s.station.link.consec + 1, drops := min 65535 (s.station.link.drops + 1) } →
    (s.station.link.tx = some .claim →
      (∀ x, s.station.link.claim.held = some x → s.station.link.claim.aside = none → x.retries < 3 →
        exec .sendBitError s =
          .next ⟨{ s.station with link := { l with claim := { held := some { x with retries := x.retries + 1 } } } },
            s.pending⟩) ∧
      (∀ y, s.station.link.claim.aside = some y →
        exec .sendBitError s = .next ⟨{ s.station with link := { l with claim := { held := some y } } }, s.pending⟩) ∧
      (∀ x, s.station.link.claim.held = some x → s.station.link.claim.aside = none → 3 ≤ x.retries →
        s.station.link.consec < 15 →
        (s.station.extraStands = false ∨ s.station.start.phase ≠ .running ∨ s.station.link.mute = true →
          exec .sendBitError s = .next ⟨{ s.station with link := { d with claim := {} } }, s.pending⟩) ∧
        (s.station.extraStands = true → s.station.start.phase = .running → s.station.link.mute = false →
          (s.station.link.spacingMs.isSome = true →
            exec .sendBitError s =
              .next ⟨{ s.station with link := { d with claim := {}, extraHeld := true } }, s.pending⟩) ∧
          (s.station.link.spacingMs = none →
            exec .sendBitError s =
              .next ⟨{ s.station with
                       link :=
                         { d with
                           claim := { held := some { body := s.station.claimNotice } }
                           seq := some s.station.claimNotice.seq
                           spacingMs := some 100
                           extraHeld := false } }, s.pending⟩)))) ∧
    (s.station.link.tx = some .claim → s.station.link.mute = true → s.station.link.claim.aside = none →
      ∀ x, s.station.link.claim.held = some x → 3 ≤ x.retries →
        exec .sendBitError s =
          .next ⟨{ s.station with
                   link := { d with claim := {}, consec := min 255 (s.station.link.consec + 1) } }, s.pending⟩) ∧
    (s.station.link.tx = some .excursion → s.station.link.exc.aside = none →
      ∀ x, s.station.link.exc.held = some x →
        (x.retries < 3 →
          exec .sendBitError s =
            .next ⟨{ s.station with link := { l with exc := { held := some { x with retries := x.retries + 1 } } } },
              s.pending⟩) ∧
        (3 ≤ x.retries → s.station.link.consec < 15 →
          exec .sendBitError s = .next ⟨{ s.station with link := { d with exc := {} } }, s.pending⟩)) ∧
    (s.station.link.tx = some .presence → s.station.link.pres.aside = none →
      ∀ x, s.station.link.pres.held = some x →
        (x.retries < 3 →
          exec .sendBitError s =
            .next ⟨{ s.station with link := { l with pres := { held := some { x with retries := x.retries + 1 } } } },
              s.pending⟩) ∧
        (3 ≤ x.retries → s.station.link.consec < 15 →
          exec .sendBitError s =
            .next ⟨{ s.station with
                     link := { d with pres := {} }
                     start.presAgain := s.station.start.presAgain || s.station.start.phase == .window },
              s.pending⟩)) ∧
    (s.station.link.tx = some .event → s.station.link.evt.aside = none →
      ∀ x, s.station.link.evt.held = some x →
        (x.retries < 3 →
          exec .sendBitError s =
            .next ⟨{ s.station with
                     link := { l with evt := { held := some { x with retries := x.retries + 1 } } }
                     req.joined := 0 }, s.pending⟩) ∧
        (3 ≤ x.retries → s.station.link.consec < 15 →
          exec .sendBitError s =
            .next ⟨{ s.station with link := { d with evt := {} }, req.joined := 0 }, s.pending⟩)) ∧
    (s.station.link.tx = some .reply →
      ∀ e, s.station.link.replies.head? = some e →
        (e.retries < 3 →
          exec .sendBitError s =
            .next ⟨{ s.station with
                     link :=
                       { l with
                         replies := { e with retries := e.retries + 1 } :: s.station.link.replies.drop 1 } },
              s.pending⟩) ∧
        (3 ≤ e.retries → s.station.link.consec < 15 →
          exec .sendBitError s =
            .next ⟨{ s.station with link := { d with replies := s.station.link.replies.drop 1 } }, s.pending⟩)) ∧
    (s.station.link.tx = some .pourReport →
      ∀ e, s.station.link.reports.head? = some e →
        (e.retries < 3 →
          exec .sendBitError s =
            .next ⟨{ s.station with
                     link :=
                       { l with
                         reports := { e with retries := e.retries + 1 } :: s.station.link.reports.drop 1 } },
              s.pending⟩) ∧
        (3 ≤ e.retries → s.station.link.consec < 15 →
          exec .sendBitError s =
            .next ⟨{ s.station with link := { d with reports := s.station.link.reports.drop 1 } }, s.pending⟩)) ∧
    (s.station.link.tx = none → exec .sendBitError s = .next s))

/-- The sixteenth drop in a row, of whatever kind, makes the station MUTE: the claim slot is emptied and LINK_MUTE is
asserted, which in NORMAL with H clear is a first fault. A successful probe clears MUTE and withdraws LINK_MUTE, and a
hold for LINK_MUTE resumes in the same event. -/
def Obligations.MuteIsEnteredAndCleared : Prop :=
  (∀ s : State, s.station.powered = true → s.station.link.consec = 15 → s.station.link.mute = false →
    ((s.station.link.tx = some .claim ∧ s.station.link.claim.aside = none ∧
        s.station.link.claim.held.any (fun x => decide (3 ≤ x.retries)) = true) ∨
      (s.station.link.tx = some .excursion ∧ s.station.link.exc.aside = none ∧
        s.station.link.exc.held.any (fun x => decide (3 ≤ x.retries)) = true) ∨
      (s.station.link.tx = some .presence ∧ s.station.link.pres.aside = none ∧
        s.station.link.pres.held.any (fun x => decide (3 ≤ x.retries)) = true) ∨
      (s.station.link.tx = some .event ∧ s.station.link.evt.aside = none ∧
        s.station.link.evt.held.any (fun x => decide (3 ≤ x.retries)) = true) ∨
      (s.station.link.tx = some .reply ∧
        s.station.link.replies.head?.any (fun x => decide (3 ≤ x.retries)) = true) ∨
      (s.station.link.tx = some .pourReport ∧
        s.station.link.reports.head?.any (fun x => decide (3 ≤ x.retries)) = true)) →
    ∃ t, exec .sendBitError s = .next t ∧ t.pending = s.pending ∧ t.station.link.mute = true ∧
      t.station.link.consec = 16 ∧ t.station.link.drops = min 65535 (s.station.link.drops + 1) ∧
      t.station.link.claim = {} ∧ t.station.link.tx = none ∧
      t.station.exc.linkMute = true ∧
      (s.station.exc.state = .normal → s.station.exc.h = false →
        t.station.exc.state = .safeHold ∧ t.station.exc.kind = some .linkMute ∧ t.station.isoApplies = true)) ∧
  (∀ (x : Held ClaimNotice) (s : State), s.station.powered = true → s.station.link.tx = some .claim →
    s.station.link.claim.held = some x → s.station.link.mute = true → s.station.exc.state = .safeHold →
    s.station.exc.kind = some .linkMute →
    ∃ t, exec .sendSuccess s = .next t ∧ t.pending = s.pending ∧ t.station.link.mute = false ∧
      t.station.link.consec = 0 ∧ t.station.exc.linkMute = false ∧ t.station.exc.state = .normal ∧
      t.station.exc.h = false ∧ t.station.exc.kind = none)

/-- A successful send sets the consecutive-drop count to 0 and starts the silence timer again, in the roll-call window
and after it. A claim notice's claims become the claims as last sent; where that leaves a raise waiting on another claim
and no notice waits unsent, an extra notice is asked for (the model's reading, log 17). An event report takes its flags
out of the cause set, but for those that have joined it since the report was placed; a reply goes on to its next part,
or leaves the list after its last; a report leaves its list. A presence notice sent is marked so. A frame held aside
takes its slot. A station that is ISOLATED becomes CONNECTED: its HEAT and CHILL grants are those of the shared budget
again, at once where they lie within in-use and through a settle where they lie above. -/
def Obligations.SuccessfulSendsAreTaken : Prop :=
  (∀ (l : Link) (s : State), s.station.powered = true →
    s.station.start.phase = .window ∨ s.station.start.phase = .running →
    s.station.pools.isolated = false → s.station.link.mute = false →
    l = { s.station.link with tx := none, presLeft := none, consec := 0 } →
    (∀ x, s.station.link.claim.held = some x → s.station.link.tx = some .claim →
      ∀ its, its =
        (⟨{ s.station.pools.items.heat with lastSent := some x.body.claims.heat }
        , { s.station.pools.items.chill with lastSent := some x.body.claims.chill }
        , { s.station.pools.items.gas with lastSent := some x.body.claims.gas }⟩ : PerPool PoolItem) →
      ∀ w, w =
        [Pool.heat, Pool.chill, Pool.gas].any (fun p =>
          (s.station.item p).level.isSome && x.body.claims.get p != (s.station.item p).own) →
      (w = false ∨ s.station.link.claim.aside.isSome = true ∨ s.station.start.phase = .window →
        exec .sendSuccess s =
          .next ⟨{ s.station with
                   link := { l with claim := { held := s.station.link.claim.aside } }
                   pools.silenceMs := some 4000
                   pools.items := its }, s.pending⟩) ∧
      (w = true → s.station.link.claim.aside = none → s.station.start.phase = .running →
        (s.station.link.spacingMs.isSome = true →
          exec .sendSuccess s =
            .next ⟨{ s.station with
                     link := { l with claim := {}, extraHeld := true }
                     pools.silenceMs := some 4000
                     pools.items := its }, s.pending⟩) ∧
        (s.station.link.spacingMs = none →
          exec .sendSuccess s =
            .next ⟨{ s.station with
                     link :=
                       { l with
                         claim := { held := some { body := s.station.claimNotice } }
                         seq := some s.station.claimNotice.seq
                         spacingMs := some 100
                         extraHeld := false }
                     pools.silenceMs := some 4000
                     pools.items := its }, s.pending⟩))) ∧
    (∀ x, s.station.link.evt.held = some x → s.station.link.tx = some .event →
      exec .sendSuccess s =
        .next ⟨{ s.station with
                 link := { l with evt := { held := s.station.link.evt.aside } }
                 req.cause := s.station.req.cause &&& ~~~(x.body.cause &&& ~~~s.station.req.joined)
                 req.joined := 0
                 pools.silenceMs := some 4000 }, s.pending⟩) ∧
    (∀ e, s.station.link.replies.head? = some e → s.station.link.tx = some .reply →
      exec .sendSuccess s =
        .next ⟨{ s.station with
                 link :=
                   { l with
                     replies :=
                       if e.next + 1 < e.parts then
                         { e with next := e.next + 1, retries := 0 } :: s.station.link.replies.drop 1
                       else s.station.link.replies.drop 1 }
                 pools.silenceMs := some 4000 }, s.pending⟩) ∧
    (s.station.link.tx = some .pourReport →
      exec .sendSuccess s =
        .next ⟨{ s.station with
                 link := { l with reports := s.station.link.reports.drop 1 }
                 pools.silenceMs := some 4000 }, s.pending⟩) ∧
    (s.station.link.tx = some .excursion →
      exec .sendSuccess s =
        .next ⟨{ s.station with
                 link := { l with exc := { held := s.station.link.exc.aside } }
                 pools.silenceMs := some 4000 }, s.pending⟩) ∧
    (s.station.link.tx = some .presence →
      exec .sendSuccess s =
        .next ⟨{ s.station with
                 link := { l with pres := { held := s.station.link.pres.aside } }
                 start.presSent := true
                 pools.silenceMs := some 4000 }, s.pending⟩)) ∧
  (∀ s : State, s.station.powered = true →
    s.station.start.phase = .window ∨ s.station.start.phase = .running →
    s.station.pools.isolated = true → s.station.link.mute = false → s.station.holdFor .linkMute = false →
    s.station.link.tx ≠ none →
    ∃ t, exec .sendSuccess s = .next t ∧ t.pending = s.pending ∧ t.station.pools.isolated = false ∧
      t.station.pools.silenceMs = some 4000 ∧ t.station.link.consec = 0 ∧ t.station.link.tx = none ∧
      (∀ p, p ≠ .gas → s.station.poolHeld p = false →
        ∀ g, g = ({ s.station with pools.isolated := false } : Station).computeGrant p →
        (t.station.item p).grant = g ∧ (t.station.item p).inUse = min g (s.station.item p).inUse ∧
        (g ≤ (s.station.item p).inUse → (t.station.item p).level = none) ∧
        ((s.station.item p).inUse < g → (s.station.item p).level = none →
          (t.station.item p).level = some g ∧ (t.station.item p).settleMs = 1000)))

/-- Before its first idle after a start the station takes no frame. From then on a frame in error is counted as received
and as errored, and reaches no block but the health unit's window; after one whose length field is above 16 the station
takes no frame before the next idle. A frame without error is delivered by the table: the
three notices of another station to the pool unit, the roll call and the excursion unit, a request part for the station
to its assembly, and a frame with its own ID as a conflict, each as its own command row acts. One that no row takes is
counted as received, and starts the silence timer again; it makes an ISOLATED station CONNECTED, with its HEAT and CHILL
grants those of the shared budget again. That a frame dropped at its CRC or end field counts as received is the model's
reading (log 57), and that the idle waited for is LINE_IDLE_OFFER its choice (log 24). -/
def Obligations.FramesAreCountedAndDelivered : Prop :=
  (∀ (bits : List Bool) (n : BitVec 3) (p : List Byte) (c : Instr) (s : State), s.station.link.idleSeen = false →
    c = .frameReceived bits ∨ c = .claimNoticeReceived n p ∨ c = .presenceNoticeReceived n p ∨
      c = .excursionNoticeReceived n p ∨ c = .requestPartReceived p →
    exec c s = .next s) ∧
  (∀ (bits : List Bool) (s : State), s.station.powered = true → s.station.link.idleSeen = true →
    (receiveBits bits = none →
      ∃ t, exec (.frameReceived bits) s = .next t ∧ t.pending = s.pending ∧
        t.station.link.rx = min 65535 (s.station.link.rx + 1) ∧
        t.station.link.errored = min 65535 (s.station.link.errored + 1) ∧
        (∀ b, bits = false :: b → 20 ≤ b.length →
          t.station.link.idleSeen = decide (bitsNat ((b.drop 15).take 5) ≤ 16)) ∧
        { t.station with health := s.station.health, link := s.station.link, req := s.station.req } = s.station ∧
        (s.station.health.winCount < 999 →
          t.station.health =
            { s.station.health with winCount := s.station.health.winCount + 1
                                    winErr := s.station.health.winErr + 1 } ∧
          t.station.req = s.station.req)) ∧
    (∀ f, receiveBits bits = some f →
      (f.sender.toNat < 8 → f.sender.toNat ≠ s.station.start.id →
        (f.kind = 1 →
          exec (.frameReceived bits) s = exec (.presenceNoticeReceived (BitVec.ofNat 3 f.sender.toNat) f.payload) s) ∧
        (f.kind = 2 →
          exec (.frameReceived bits) s = exec (.claimNoticeReceived (BitVec.ofNat 3 f.sender.toNat) f.payload) s) ∧
        (f.kind = 3 →
          exec (.frameReceived bits) s =
            exec (.excursionNoticeReceived (BitVec.ofNat 3 f.sender.toNat) f.payload) s)) ∧
      (f.sender.toNat < 8 → f.sender.toNat = s.station.start.id →
        exec (.frameReceived bits) s =
          exec (.excursionNoticeReceived (BitVec.ofNat 3 f.sender.toNat) f.payload) s) ∧
      (f.sender = 14 → f.kind = 4 → f.dest.toNat = s.station.start.id → s.station.start.id < 8 →
        exec (.frameReceived bits) s = exec (.requestPartReceived f.payload) s) ∧
      (f.sender.toNat ≠ s.station.start.id → (f.sender = 14 → f.kind = 4 → f.dest.toNat ≠ s.station.start.id) →
        (f.sender.toNat < 8 →
          (f.kind = 1 → readPresence f.payload = none) ∧ (f.kind = 2 → readClaim f.payload = none) ∧
            (f.kind = 3 → readExcursion f.payload = none)) →
        s.station.health.winCount < 999 →
        s.station.start.phase = .window ∨ s.station.start.phase = .running →
        (s.station.pools.isolated = false →
          exec (.frameReceived bits) s =
            .next ⟨{ s.station with
                     link.rx := min 65535 (s.station.link.rx + 1)
                     health.winCount := s.station.health.winCount + 1
                     pools.silenceMs := some 4000 }, s.pending⟩) ∧
        (s.station.pools.isolated = true → s.station.holdFor .linkMute = false →
          ∃ t, exec (.frameReceived bits) s = .next t ∧ t.pending = s.pending ∧
            t.station.pools.isolated = false ∧ t.station.pools.silenceMs = some 4000 ∧
            t.station.link.rx = min 65535 (s.station.link.rx + 1) ∧ t.station.exc = s.station.exc ∧
            (∀ p, p ≠ .gas → s.station.poolHeld p = false →
              ∀ g, g = ({ s.station with pools.isolated := false } : Station).computeGrant p →
              (t.station.item p).grant = g ∧ (t.station.item p).inUse = min g (s.station.item p).inUse)))))

/-- A claim notice of another station makes or refreshes its entry: a repeat of the last sequence number only makes it
PRESENT with age 0; any other gives it the notice's role, number, temperature and claims. No other entry changes. A
presence notice of another station resets its entry's number, temperature and claims, and its line of the excursion
table; an excursion notice leaves the claims and writes the line. -/
def Obligations.NoticesMakeThePeerView : Prop :=
  (∀ (n : BitVec 3) (p : List Byte) (c : ClaimNotice) (s : State), s.station.powered = true →
    s.station.link.idleSeen = true → n.toNat ≠ s.station.start.id → readClaim p = some c →
    ∃ t e, exec (.claimNoticeReceived n p) s = .next t ∧ t.pending = s.pending ∧
      t.station.peer? n.toNat = some e ∧ e.id = n.toNat ∧ e.state = .present ∧ e.age = 0 ∧
      (∀ old, s.station.peer? n.toNat = some old → old.seq = some c.seq →
        e = { old with state := .present, age := 0 }) ∧
      ((∀ old, s.station.peer? n.toNat = some old → old.seq ≠ some c.seq) →
        e.role = c.role ∧ e.seq = some c.seq ∧ e.temp = c.temp ∧ e.probeOk = c.probeOk ∧ e.claims = c.claims) ∧
      (∀ m, m ≠ n.toNat → t.station.peer? m = s.station.peer? m) ∧
      t.station.start = s.station.start ∧ t.station.link.rx = min 65535 (s.station.link.rx + 1)) ∧
  (∀ (n : BitVec 3) (p : List Byte) (s : State), s.station.powered = true → s.station.link.idleSeen = true →
    n.toNat ≠ s.station.start.id →
    (∀ c, readPresence p = some c →
      ∃ t e, exec (.presenceNoticeReceived n p) s = .next t ∧ t.pending = s.pending ∧
        t.station.peer? n.toNat = some e ∧ e.id = n.toNat ∧ e.role = c.role ∧ e.seq = none ∧ e.temp = none ∧
        e.claims = ⟨{}, {}, {}⟩ ∧ e.state = .present ∧ e.age = 0 ∧
        t.station.exc.peers = s.station.exc.peers.set n.toNat {} ∧ t.station.start.setup = s.station.start.setup ∧
        (s.station.start.phase = .running →
          t.station.pools.items.heat.budget =
            min s.station.pools.items.heat.budget (max 1 (min 255 c.budgets.heat)) ∧
          t.station.pools.items.chill.budget =
            min s.station.pools.items.chill.budget (max 1 (min 64 c.budgets.chill)) ∧
          t.station.pools.items.gas.budget = min s.station.pools.items.gas.budget (max 1 (min 8 c.budgets.gas)))) ∧
    (∀ c, readExcursion p = some c →
      ∃ t e, exec (.excursionNoticeReceived n p) s = .next t ∧ t.pending = s.pending ∧
        t.station.peer? n.toNat = some e ∧ e.id = n.toNat ∧ e.role = c.role ∧ e.state = .present ∧ e.age = 0 ∧
        (∀ old, s.station.peer? n.toNat = some old →
          e.claims = old.claims ∧ e.seq = old.seq ∧ e.temp = old.temp) ∧
        t.station.exc.peers = s.station.exc.peers.set n.toNat ⟨c.state, c.kind⟩))

/-- The round trip of the frame envelope: whatever frame a legal sender drives, its bits are received without error as
that frame, priority, sender, destination, kind and every payload byte. -/
def Obligations.AFrameSentIsTheFrameReceived : Prop :=
  ∀ f : Frame, f.payload.length ≤ 16 → 1 ≤ f.kind.toNat → f.kind.toNat ≤ 7 →
    (f.sender.toNat < 8 ∨ 14 ≤ f.sender.toNat) →
    receiveBits f.bits = some f

/-! ## Supply pools, the roll call and the pair -/

/-- The allocation: the participants are the station, if it claims anything, and every entry that is not ABSENT and
does. They are ranked by class, highest first, and among equals by ID, lowest first; each has the lesser of its demand
and the floor, and in the order of the ranks takes of the remainder what its demand leaves. A station that claims
nothing is granted nothing; a grant never exceeds the own demand nor the adopted budget. The shares of all
participants add up to the budget or to the sum of their demands, whichever is less. Under isolation grants the grant
is the lesser of the own demand and floor(B / N_known). -/
def Obligations.AllocationSharesTheBudget : Prop :=
  (∀ (p : Pool) (s : Station), (∀ e ∈ s.pools.peers, e.id ≠ s.start.id) →
    s.computeGrant p ≤ (s.item p).own.demand ∧ s.computeGrant p ≤ (s.item p).budget ∧
      ((s.item p).own.demand = 0 → s.computeGrant p = 0)) ∧
  (∀ (p : Pool) (s : Station),
    (s.isoApplies = true →
      s.computeGrant p = min (s.item p).own.demand ((s.item p).budget / (1 + s.pools.peers.length))) ∧
    (s.isoApplies = false → (s.item p).own.demand ≠ 0 →
      s.computeGrant p = shareOf s.start.id (allocate (s.item p).budget (s.participants p))) ∧
    (∀ x, x ∈ s.participants p ↔
      ((s.item p).own.demand ≠ 0 ∧ x = ⟨s.start.id, (s.item p).own⟩) ∨
        ∃ e ∈ s.pools.peers, e.state ≠ .absent ∧ (e.claims.get p).demand ≠ 0 ∧ x = ⟨e.id, e.claims.get p⟩)) ∧
  (∀ (b f : Nat) (parts pre post : List Part) (x : Part), f = b / parts.length → (pre ++ x :: post).Perm parts →
    (parts.map (·.id)).Nodup →
    (pre ++ x :: post).Pairwise (fun y z =>
      z.claim.cls.code < y.claim.cls.code ∨ (z.claim.cls.code = y.claim.cls.code ∧ y.id < z.id)) →
    shareOf x.id (allocate b parts) =
      min x.claim.demand f +
        min (x.claim.demand - min x.claim.demand f)
          (b - (parts.map fun y => min y.claim.demand f).sum -
            (pre.map fun y => y.claim.demand - min y.claim.demand f).sum)) ∧
  (∀ (b : Nat) (parts : List Part), parts ≠ [] →
    ((allocate b parts).map (·.2)).sum = min b ((parts.map fun x => x.claim.demand).sum))

/-- A settle that runs out gives the pool its current grant. HEAT and CHILL wait for the next cycle start. At a rise of
GAS the vent and the CARB band's request are decided at once, here in CARB with no pour; the gas valve opens at once if
its demand still stands, under a pour in PRIMING too. A settle that waits on its claim does not run out. Four seconds of
silence: a station that knows others becomes ISOLATED and takes min(own demand, floor(B / N_known)) in each pool at
once, unless held; one that knows none stays CONNECTED and starts the timer again. An expiry is taken where its timer
runs (the model's choice, log 1); how the decision at a change of GAS in-use is made is the model's reading (log 52). -/
def Obligations.SettleAndSilenceGiveInUse : Prop :=
  (∀ (p : Pool) (s : State), s.station.powered = true →
    ((s.station.item p).level.isSome = true → (s.station.item p).lastSent = some (s.station.item p).own →
      (s.station.item p).inUse ≤ (s.station.item p).grant →
      ∃ t, exec (.settleTimerExpiry p) s = .next t ∧ t.pending = s.pending ∧
        (∀ q, q ≠ p → t.station.item q = s.station.item q) ∧ t.station.prog = s.station.prog ∧
        { t.station with
          pools := s.station.pools
          press := s.station.press
          link := s.station.link } = s.station ∧
        (p ≠ .gas →
          t.station.item p =
            { s.station.item p with inUse := (s.station.item p).grant, level := none, settleMs := 0 } ∧
          t.station.press = s.station.press ∧ t.station.link = s.station.link) ∧
        (p = .gas → s.station.pools.items.gas.inUse = 0 → s.station.pools.items.gas.grant = 1 →
          s.station.start.role ≠ .follower → s.station.exc.state = .normal → s.station.health.test = none →
          (t.station.press.gas =
            (decide (t.station.pools.items.gas.posted.demand = 1) &&
              decide (t.station.pools.items.gas.inUse = 1))) ∧
          (∀ b, s.station.keg.batch = some b → ∀ l, s.station.press.pt = some l → b.step.mode = .carb →
            s.station.pour.active = none → s.station.press.primReq = false → s.station.press.holdReq = false →
            t.station.press.vent =
              (if s.station.press.vent then decide (l < s.station.sense.p)
                else decide (l + s.station.start.setup.band < s.station.sense.p)) ∧
            t.station.press.bandReq =
              (if s.station.press.bandReq then decide (s.station.sense.p < l)
                else decide (s.station.sense.p + s.station.start.setup.band < l)) ∧
            t.station.pools.items.gas.posted =
              (if t.station.press.bandReq && !t.station.press.vent then ⟨1, .hold⟩ else {}) ∧
            (t.station.pools.items.gas.posted = s.station.pools.items.gas.posted →
              s.station.pools.items.gas.own = s.station.pools.items.gas.posted →
              t.station.pools.items.gas =
                { s.station.pools.items.gas with inUse := 1, level := none, settleMs := 0 })) ∧
          (∀ a, s.station.pour.active = some a → a.stage = .priming → s.station.press.primReq = true →
            s.station.pools.items.gas.posted = ⟨1, .pour⟩ → s.station.pools.items.gas.own = ⟨1, .pour⟩ →
            t.station.press.vent = false ∧ t.station.press.gas = true ∧
            t.station.pools.items.gas =
              { s.station.pools.items.gas with inUse := 1, level := none, settleMs := 0 }))) ∧
    ((s.station.item p).lastSent ≠ some (s.station.item p).own → exec (.settleTimerExpiry p) s = .next s)) ∧
  (∀ (n : Nat) (s : State), s.station.powered = true → s.station.pools.silenceMs = some n →
    (s.station.pools.peers = [] →
      exec .silenceTimerExpiry s = .next ⟨{ s.station with pools.silenceMs := some 4000 }, s.pending⟩) ∧
    (s.station.pools.peers ≠ [] →
      ∃ t, exec .silenceTimerExpiry s = .next t ∧ t.pending = s.pending ∧ t.station.pools.isolated = true ∧
        t.station.pools.silenceMs = none ∧ t.station.keg = s.station.keg ∧ t.station.exc = s.station.exc ∧
        t.station.req = s.station.req ∧
        (∀ p, s.station.poolHeld p = false →
          (t.station.item p).inUse =
            min (t.station.item p).own.demand ((s.station.item p).budget / (1 + s.station.pools.peers.length)) ∧
          (t.station.item p).level = none ∧ (p ≠ .gas → (t.station.item p).own = (s.station.item p).own)) ∧
        (∀ p, s.station.poolHeld p = true → (t.station.item p).inUse = 0)))

/-- OVERDRAW asserted holds HEAT at 0 and switches the heater off, stops the back-off and raises the count; deasserted
it starts a back-off of (2 + ID) × 500 ms, with the hold still laid; at its end the hold is lifted, and a grant above 0
makes a raise pending unless another hold stands, or is taken at once where isolation grants apply. CHILL and GAS in-use
are not affected. A level that has not held for 16 ms is no change (the operand is the model's, log 23). The back-off's
end is taken whatever it has counted (the model's choice, log 1). That all this is so on a follower under its lead too
is the model's reading (log 27). -/
def Obligations.OverdrawHoldsHeat : Prop :=
  ∀ (m : Nat) (s : State), s.station.powered = true →
    (m < 16 → exec (.overdrawAssert m) s = .next s ∧ exec (.overdrawDeassert m) s = .next s) ∧
    (16 ≤ m → s.station.sense.overdraw = false →
      ∃ t, exec (.overdrawAssert m) s = .next t ∧ t.pending = s.pending ∧
        t.station.sense = { s.station.sense with overdraw := true } ∧ t.station.pools.overdrawHold = true ∧
        t.station.pools.backoffMs = none ∧
        t.station.pools.overdraws = min 65535 (s.station.pools.overdraws + 1) ∧
        t.station.pools.items.heat.inUse = 0 ∧ t.station.pools.items.heat.level = none ∧
        t.station.pools.items.heat.own = s.station.pools.items.heat.own ∧
        t.station.pools.items.chill = s.station.pools.items.chill ∧
        t.station.pools.items.gas = s.station.pools.items.gas ∧ t.station.prog.heater = false ∧
        t.station.prog.glycol = s.station.prog.glycol ∧ t.station.press = s.station.press) ∧
    (16 ≤ m → s.station.sense.overdraw = true →
      exec (.overdrawDeassert m) s =
        .next ⟨{ s.station with
                 sense.overdraw := false
                 pools.backoffMs := some ((2 + s.station.start.id) * 500) }, s.pending⟩) ∧
    (∀ n, s.station.pools.backoffMs = some n → s.station.inLockout = false →
      s.station.holdFor .idConflict = false →
      s.station.pools.items.heat.inUse = 0 → s.station.pools.items.heat.level = none →
      ∃ t, exec .backoffTimerExpiry s = .next t ∧ t.pending = s.pending ∧ t.station.pools.overdrawHold = false ∧
        t.station.pools.backoffMs = none ∧
        (s.station.isoApplies = false →
          t.station.pools.items.heat.inUse = 0 ∧
            (0 < t.station.pools.items.heat.grant →
              t.station.pools.items.heat.level = some t.station.pools.items.heat.grant ∧
                t.station.pools.items.heat.settleMs = 1000)) ∧
        (s.station.isoApplies = true →
          t.station.pools.items.heat.inUse =
              min s.station.pools.items.heat.own.demand
                (s.station.pools.items.heat.budget / (1 + s.station.pools.peers.length)) ∧
            t.station.pools.items.heat.level = none) ∧
        t.station.pools.items.chill = s.station.pools.items.chill ∧ t.station.prog = s.station.prog)

/-- A boundary of the notice interval clock ages every entry: at 2 a PRESENT entry becomes SILENT, at 4 a SILENT one
ABSENT with no last number; its claims stay. A paired lead whose follower's entry becomes ABSENT runs as a single
station, and a FOLLOWING follower, which runs no vessel, becomes ORPHAN where its lead's entry does; PAIR_LOST sets.
In the window the boundary is counted, and a presence notice that was dropped is placed again at it, but for the
fourth. In the window the presence notice is placed at its time, with the role carried and the three setup budgets. A
claim notice is placed at the claim offset of a station past its window that is not MUTE, with the next number and the
station's own claims; a MUTE station places one at its probe time; a held request that still stands places one as the
spacing runs out, and one that does not lapses. The presence notice and the probe are placed at the command's word,
and the spacing ends whatever it has counted (the model's choice, log 1); that a probe leaves the spacing as it is,
and that the window's notice is placed at any time of the window, are the model's choices too (log 35, log 45). That a
station which leads no pair sends a drive of 0, and that the orphan's outputs close at once, are its readings (log 28,
log 29). -/
def Obligations.NoticesKeepTheirPlacesAndTheViewAges : Prop :=
  (∀ s : State, s.station.powered = true → s.station.start.phase = .window ∨ s.station.start.phase = .running →
    ∃ t, exec .noticeIntervalBoundary s = .next t ∧ t.pending = s.pending ∧
      t.station.pools.peers =
        (s.station.pools.peers.map fun e =>
          { e with
            age := min 255 (e.age + 1)
            state :=
              if e.age = 1 ∧ e.state = .present then .silent
              else if e.age = 3 ∧ e.state = .silent then .absent
              else e.state
            seq := if e.age = 3 ∧ e.state = .silent then none else e.seq }) ∧
      t.station.start.boundaries =
        (if s.station.start.phase = .window then min 4 (s.station.start.boundaries + 1)
          else s.station.start.boundaries) ∧
      t.station.start.phase = s.station.start.phase ∧ t.station.sense = s.station.sense ∧
      (s.station.start.phase = .window → s.station.start.presAgain = true → s.station.start.boundaries < 3 →
        t.station.start.presAgain = false ∧
        t.station.link.pres =
          s.station.link.pres.place (s.station.link.tx == some .presence)
            { role := s.station.roleCarried, budgets := s.station.start.setup.budget }) ∧
      (s.station.start.phase = .window → s.station.start.presAgain = false ∨ 3 ≤ s.station.start.boundaries →
        t.station.link.pres = s.station.link.pres)) ∧
  (∀ (e : Peer) (s : State), s.station.powered = true → s.station.start.phase = .running →
    s.station.peer? s.station.partnerId = some e → e.state = .silent → e.age = 3 →
    (s.station.start.role = .lead → s.station.prog.pair = .leadPaired →
      ∃ t, exec .noticeIntervalBoundary s = .next t ∧ t.pending = s.pending ∧ t.station.flag .pairLost = true ∧
        t.station.prog.vessel = false ∧ t.station.prog.driveC = 0 ∧ t.station.prog.driveH = 0 ∧
        t.station.prog.pair = .leadPaired) ∧
    (s.station.start.role = .follower → s.station.prog.pair = .following → s.station.prog.vessel = false →
      ∃ t, exec .noticeIntervalBoundary s = .next t ∧ t.pending = s.pending ∧ t.station.flag .pairLost = true ∧
        t.station.prog.pair = .orphan ∧ t.station.prog.driveC = 0 ∧ t.station.prog.driveH = 0 ∧
        t.station.prog.glycol = false ∧ t.station.prog.heater = false ∧
        t.station.prog.lastS = s.station.prog.lastS)) ∧
  (∀ s : State, s.station.start.phase = .window → s.station.start.presSent = false →
    exec .presencePlacement s =
      .next ⟨{ s.station with
               link.pres :=
                 s.station.link.pres.place (s.station.link.tx == some .presence)
                   { role := s.station.roleCarried, budgets := s.station.start.setup.budget }
               start.presAgain := false }, s.pending⟩) ∧
  (∀ (c : ClaimNotice) (k : Nat) (s : State), s.station.powered = true → s.station.start.phase = .running →
    k = (match s.station.link.seq with | none => 0 | some n => if n = 255 then 0 else n + 1) →
    c.claims = ⟨s.station.pools.items.heat.own, s.station.pools.items.chill.own, s.station.pools.items.gas.own⟩ →
    c.seq = k → c.role = s.station.roleCarried → c.temp = s.station.tAvg → c.setpoint = s.station.setpoint →
    c.probeOk = (s.station.sense.beer.state == .ok) →
    (c.driveChill, c.driveHeat) =
      (if s.station.prog.pair = .leadPaired then (s.station.prog.driveC, s.station.prog.driveH) else (0, 0)) →
    (s.station.link.mute = false →
      exec .claimOffsetPlacement s =
        .next ⟨{ s.station with
                 link.claim := s.station.link.claim.place (s.station.link.tx == some .claim) c
                 link.seq := some k
                 link.spacingMs := some 100
                 link.extraHeld := false }, s.pending⟩) ∧
    (s.station.link.mute = true →
      exec .claimOffsetPlacement s = .next s ∧
      exec .probePlacement s =
        .next ⟨{ s.station with
                 link.claim := s.station.link.claim.place (s.station.link.tx == some .claim) c
                 link.seq := some k
                 link.muteIntervals := 0
                 link.extraHeld := false }, s.pending⟩) ∧
    (s.station.link.mute = false → s.station.link.spacingMs.isSome = true → s.station.link.extraHeld = true →
      s.station.extraStands = true →
      exec .claimSpacingExpiry s =
        .next ⟨{ s.station with
                 link.claim := s.station.link.claim.place (s.station.link.tx == some .claim) c
                 link.seq := some k
                 link.spacingMs := some 100
                 link.extraHeld := false }, s.pending⟩) ∧
    (s.station.link.spacingMs.isSome = true → s.station.link.extraHeld = false ∨ s.station.extraStands = false →
      exec .claimSpacingExpiry s =
        .next ⟨{ s.station with
                 link.spacingMs := none
                 link.extraHeld := false }, s.pending⟩))

/-- The window's end adopts the lowest budgets heard, settles the pair state by the partner's entry, empties the
presence slot, clears H in NORMAL, and begins the first control period. The outcomes of a lead carry the flags of their
table. The first control period asks for no claim notice: the first is placed at the claim offset, as the model reads it
(log 51). Said where no claim of a lead was heard in the window (log 28). -/
def Obligations.WindowEndSettlesTheStart : Prop :=
  ∀ s : State, s.station.start.phase = .window → s.station.start.boundaries = 4 →
    s.station.prog.leadHeard = false →
    ∃ t, exec .rollCallWindowEnd s = .next t ∧ t.pending = s.pending ∧ t.station.start.phase = .running ∧
      t.station.pools.items.heat.budget = s.station.start.lowest.heat ∧
      t.station.pools.items.chill.budget = s.station.start.lowest.chill ∧
      t.station.pools.items.gas.budget = s.station.start.lowest.gas ∧
      t.station.prog.cycleOn = true ∧ t.station.prog.cycleMs = 0 ∧
      t.station.link.pres = {} ∧
      (s.station.link.claim = {} → t.station.link.claim = {} ∧ t.station.link.seq = s.station.link.seq) ∧
      (s.station.start.lowest.heat < s.station.start.setup.budget.heat ∨
          s.station.start.lowest.chill < s.station.start.setup.budget.chill ∨
          s.station.start.lowest.gas < s.station.start.setup.budget.gas →
        t.station.flag .budgetReduced = true) ∧
      (s.station.start.role ≠ .follower → s.station.exc.state = .normal → t.station.exc.h = false) ∧
      (s.station.start.role ≠ .follower → s.station.exc.state = .lockout →
        t.station.exc.h = s.station.exc.h ∧ t.station.exc.state = .lockout) ∧
      (s.station.start.role = .single → s.station.prog.pair = .single → t.station.prog.pair = .single) ∧
      (s.station.start.role = .lead →
        (∀ e, s.station.peer? (s.station.start.id + 1) = some e → e.role = .follower → e.state ≠ .absent →
          t.station.prog.pair = .leadPaired) ∧
        (∀ e, s.station.peer? (s.station.start.id + 1) = some e → e.role ≠ .follower →
          t.station.prog.pair = .leadUnpaired ∧ t.station.prog.mismatch = true ∧
            t.station.flag .pairMismatch = true) ∧
        (s.station.peer? (s.station.start.id + 1) = none →
          t.station.prog.pair = .leadUnpaired ∧ t.station.flag .pairMissing = true)) ∧
      (s.station.start.role = .follower →
        (∀ e, s.station.peer? (s.station.start.id - 1) = some e → e.role = .lead → e.state ≠ .absent →
          t.station.prog.pair = .following) ∧
        (∀ e, s.station.peer? (s.station.start.id - 1) = some e → e.role ≠ .lead →
          t.station.prog.pair = .orphan ∧ t.station.flag .pairMismatch = true) ∧
        (s.station.peer? (s.station.start.id - 1) = none →
          t.station.prog.pair = .orphan ∧ t.station.flag .pairMissing = true))

/-! ## Faults, the keg switch, and the excursion timers -/

/-- A keg removal outside the close case is taken as KEG_LOST: in NORMAL with H clear the station enters SAFE_HOLD,
the run and service states are saved and stopped, the log and the notice are written, EXCURSION sets, the vent closes
and no gas is claimed. In the close case the batch closes with KEG_REMOVED and no fault. A pour in progress closes
KEG_LOST and completes at once, either way; one in its drain window goes on to the window's end. With no batch a
removal and an insertion only move the switch and its latch. That the close case is tested on the record as the
removal finds it, before the pour in progress is written, is the model's choice (log 21). A level that has not held
for 16 ms is no change (the operand is the model's, log 23). -/
def Obligations.KegRemovalIsAFaultOrAClose : Prop :=
  ∀ (n : Nat) (s : State), s.station.powered = true → s.station.onePour →
    (n < 16 → exec (.kegRemoval n) s = .next s ∧ exec (.kegInsertion n) s = .next s) ∧
    (∀ b, s.station.keg.batch = some b → 16 ≤ n → s.station.sense.keg = true → b.phase ≠ .none →
      (b.phase ≠ .serve ∨ (b.kegEmpty = false ∧ b.fill < 20 * b.remaining)) →
      s.station.exc.state = .normal → s.station.exc.h = false →
      ∃ t, exec (.kegRemoval n) s = .next t ∧ t.pending = s.pending ∧
        t.station.sense = { s.station.sense with keg := false } ∧
        t.station.exc =
          { s.station.exc with
            state := .safeHold, h := true, kind := some .kegLost, clearMs := none, holdMs := some 0
            saved := { run := b.run, serving := s.station.pour.serving }
            log := t.station.exc.log } ∧
        t.station.exc.log =
          (if s.station.exc.log.length < 8 then s.station.exc.log else s.station.exc.log.drop 1) ++
            [{ kind := .kegLost, batch := b.number, minute := b.batchMin, phase := b.phase, stepIdx := b.stepIdx
               tAvg := s.station.tAvg, p := s.station.sense.p, lockout := false }] ∧
        t.station.pour.serving = false ∧ t.station.pour.active = none ∧
        t.station.pour.drain = s.station.pour.drain ∧ t.station.flag .excursion = true ∧
        t.station.faultLine = true ∧ t.station.health.test = none ∧ t.station.press.vent = false ∧
        t.station.press.gas = false ∧ t.station.pools.items.gas.posted = {} ∧
        t.station.link.exc =
          s.station.link.exc.place (s.station.link.tx == some .excursion)
            { role := s.station.roleCarried, state := .safeHold, kind := some .kegLost } ∧
        t.station.start = s.station.start ∧ t.station.nv = s.station.nv ∧
        (s.station.pour.active = none →
          t.station.keg.batch = some { b with run := false } ∧ t.station.pour.queue = s.station.pour.queue ∧
            t.station.pour.recent = s.station.pour.recent) ∧
        (∀ a, s.station.pour.active = some a →
          t.station.pour.tap = false ∧
            t.station.pour.queue = (if a.tag = 0 then s.station.pour.queue else s.station.pour.queue.drop 1) ∧
            t.station.pour.recent =
              ({ tag := a.tag, kind := a.kind, requested := a.requested, delivered := a.delivered
                 duration := min 65535 (a.ms / 100), outcome := .kegLost : PourReport } ::
                s.station.pour.recent).take 4 ∧
            t.station.keg.batch =
              some { b with
                run := false
                remaining := b.remaining - a.delivered
                total := min 4294967295 (b.total + a.delivered)
                pours := min 65535 (b.pours + 1) })) ∧
    (∀ b, s.station.keg.batch = some b → 16 ≤ n → s.station.sense.keg = true → b.phase = .serve →
      (b.kegEmpty = true ∨ 20 * b.remaining ≤ b.fill) → s.station.calm →
      ∃ t, exec (.kegRemoval n) s = .next t ∧ t.pending = s.pending ∧ t.station.keg.batch = none ∧
        t.station.keg.persist = .off ∧ t.station.pour.queue = [] ∧ t.station.pour.active = none ∧
        t.station.pour.drain = s.station.pour.drain ∧ t.station.flag .kegRemoved = true ∧
        t.station.flag .phaseChanged = true ∧ t.station.exc.state = s.station.exc.state ∧
        t.station.sense = { s.station.sense with keg := false } ∧ t.station.start = s.station.start ∧
        (∀ a, s.station.pour.active = some a → s.station.queued = [] →
          t.station.pour.tap = false ∧
            t.station.pour.recent =
              ({ tag := a.tag, kind := a.kind, requested := a.requested, delivered := a.delivered
                 duration := min 65535 (a.ms / 100), outcome := .kegLost : PourReport } ::
                s.station.pour.recent).take 4)) ∧
    (16 ≤ n → s.station.keg.batch = none → s.station.health.test = none → s.station.pour.queue = [] →
      (s.station.sense.keg = true →
        ∃ t, exec (.kegRemoval n) s = .next t ∧ t.pending = s.pending ∧
          { t.station with link := s.station.link, req := s.station.req } =
            { s.station with sense.keg := false } ∧
          (s.station.sense.ackKeg = true → t.station.flag .kegChanged = true) ∧
          (s.station.sense.ackKeg = false → t.station = { s.station with sense.keg := false })) ∧
      (s.station.sense.keg = false →
        ∃ t, exec (.kegInsertion n) s = .next t ∧ t.pending = s.pending ∧
          { t.station with link := s.station.link, req := s.station.req } =
            { s.station with sense.keg := true } ∧
          (s.station.sense.ackKeg = false → t.station.flag .kegChanged = true) ∧
          (s.station.sense.ackKeg = true → t.station = { s.station with sense.keg := true })))

/-- A second fault, of another kind, takes the station from SAFE_HOLD into LOCKOUT: the heater, the glycol valve, the
gas valve and the tap are off, every in-use value is 0, the queue is empty, the vent is open exactly while P is above
Pr, the log and the notice are written and LOCKOUT sets. Said of an ID conflict, which also sets the conflict mark. A
frame without error that carries the station's own ID as sender sets the conflict mark, in every station state; in
NORMAL with H clear it is a first fault, and with H set a fault during start-up. A fault of the active kind in
SAFE_HOLD refreshes the hold: the clearance stops, and the saved context, H, the log and the notice stay as they are;
under OVERPRESSURE the pour in progress closes and the vent opens at once. A fault taken in LOCKOUT writes nothing but
the standing state of its condition, here at the expiry of the beer probe's hold timer and of the gas-open timer,
which R73 and R80 keep stopped in LOCKOUT; either expiry is taken where its timer runs, whatever it has counted (the
model's choice, log 1). -/
def Obligations.SecondFaultsLockEverythingOff : Prop :=
  (∀ (n : BitVec 3) (p : List Byte) (k : FaultKind) (s : State), s.station.powered = true →
    s.station.link.idleSeen = true → s.station.start.id = n.toNat → s.station.exc.state = .safeHold →
    s.station.exc.kind = some k → k ≠ .idConflict → s.station.tapSafe →
    ∃ t, exec (.excursionNoticeReceived n p) s = .next t ∧ t.pending = s.pending ∧
      t.station.exc.state = .lockout ∧ t.station.exc.kind = some .idConflict ∧ t.station.exc.h = true ∧
      t.station.exc.conflict = true ∧ t.station.exc.holdMs = some 0 ∧ t.station.exc.saved = s.station.exc.saved ∧
      t.station.prog.glycol = false ∧ t.station.prog.heater = false ∧ t.station.press.gas = false ∧
      t.station.pour.tap = false ∧ t.station.pour.active = none ∧ t.station.pour.queue = [] ∧
      (∀ q, (t.station.item q).inUse = 0 ∧ (t.station.item q).level = none) ∧
      (s.station.start.role ≠ .follower →
        t.station.press.vent = decide (s.station.start.setup.pr < s.station.sense.p)) ∧
      t.station.flag .lockout = true ∧ t.station.health.test = none ∧ t.station.faultLine = true ∧
      (∀ b, s.station.keg.batch = some b →
        t.station.exc.log =
          (if s.station.exc.log.length < 8 then s.station.exc.log else s.station.exc.log.drop 1) ++
            [{ kind := .idConflict, batch := b.number, minute := b.batchMin, phase := b.phase, stepIdx := b.stepIdx
               tAvg := s.station.tAvg, p := s.station.sense.p, lockout := true }]) ∧
      t.station.link.exc =
        s.station.link.exc.place (s.station.link.tx == some .excursion)
          { role := s.station.roleCarried, state := .lockout, kind := some .idConflict } ∧
      t.station.start = s.station.start ∧ t.station.sense = s.station.sense) ∧
  (∀ (n : BitVec 3) (p : List Byte) (s : State) (c : Instr), s.station.powered = true →
    s.station.link.idleSeen = true → s.station.start.id = n.toNat →
    (c = .claimNoticeReceived n p ∨ c = .presenceNoticeReceived n p ∨ c = .excursionNoticeReceived n p ∨
      ∃ bits f, receiveBits bits = some f ∧ f.sender.toNat = n.toNat ∧ c = .frameReceived bits) →
    ∃ t, exec c s = .next t ∧ t.pending = s.pending ∧ t.station.exc.conflict = true ∧
      t.station.pools.peers = s.station.pools.peers ∧
      (s.station.exc.state = .normal → s.station.exc.h = false →
        t.station.exc.state = .safeHold ∧ t.station.exc.kind = some .idConflict) ∧
      (s.station.exc.state = .normal → s.station.exc.h = true → t.station.exc.state = .lockout) ∧
      (s.station.exc.state = .lockout → t.station.exc.state = .lockout ∧ t.station.exc.log = s.station.exc.log) ∧
      (s.station.exc.state = .safeHold → s.station.exc.kind = some .idConflict →
        t.station.exc = { s.station.exc with conflict := true, clearMs := none } ∧
          t.station.link.exc = s.station.link.exc ∧ t.station.keg = s.station.keg)) ∧
  (∀ (v : Int) (s : State), s.station.powered = true → s.station.sense.sampling = true →
    s.station.start.role ≠ .follower → s.station.exc.state = .safeHold → s.station.exc.kind = some .overpressure →
    s.station.exc.overpressure = false → s.station.start.setup.pr + 30 < v → v ≤ 400 → s.station.tapSafe →
    ∃ t, exec (.pressureConversion (some v)) s = .next t ∧ t.pending = s.pending ∧
      t.station.exc = { s.station.exc with overpressure := true, clearMs := none } ∧
      t.station.link.exc = s.station.link.exc ∧ t.station.pour.active = none ∧ t.station.pour.tap = false ∧
      t.station.press.vent = true ∧ t.station.press.gas = false ∧ t.station.pools.items.gas.posted = {} ∧
      t.station.pour.serving = s.station.pour.serving) ∧
  (∀ (n : Nat) (s : State), s.station.powered = true → s.station.exc.state = .lockout →
    s.station.sense.beer.state = .holding → s.station.sense.beer.holdMs = some n →
    exec (.holdTimerExpiry .beer) s =
      .next ⟨{ s.station with
               sense.beer.state := .failed
               sense.beer.holdMs := none
               exc.probeLost := true }, s.pending⟩) ∧
  (∀ (n : Nat) (s : State), s.station.powered = true → s.station.exc.state = .lockout →
    s.station.press.gasTimer = some n →
    exec .gasOpenTimerExpiry s =
      .next ⟨{ s.station with
               press.gasTimer := some 0
               press.gasRef := s.station.sense.p }, s.pending⟩)

/-- The over-temperature timer at 10 minutes and the under-temperature timer at 60 s, while their conditions run, assert
their kinds, which in NORMAL with H clear are first faults. Thirty seconds of gas with the tap closed: a rise of less
than 2 kPa is a GAS_SUPPLY fault, under which the gas valve is closed and nothing is claimed; otherwise the timer starts
again from the present pressure. An expiry is taken where its timer runs, whatever it has counted (the model's choice,
log 1). -/
def Obligations.TemperatureAndGasTimersAreChecked : Prop :=
  (∀ (x sp : Int) (s : State), s.station.powered = true → s.station.tAvg = some x → s.station.setpoint = some sp →
    (s.station.start.role ≠ .follower ∨ s.station.prog.pair = .orphan) → s.station.exc.state = .normal →
    s.station.exc.h = false →
    (0 < s.station.exc.overS → sp + 40 < x → -25 ≤ x → s.station.exc.overtemp = false →
      s.station.exc.undertemp = false →
      ∃ t, exec .overtempTimerExpiry s = .next t ∧ t.pending = s.pending ∧ t.station.exc.overtemp = true ∧
        t.station.exc.overS = 600 ∧ t.station.exc.state = .safeHold ∧ t.station.exc.kind = some .overtemp ∧
        t.station.sense = s.station.sense ∧ t.station.start = s.station.start) ∧
    (0 < s.station.exc.underS → x < -25 → x ≤ sp + 40 → s.station.exc.overtemp = false →
      s.station.exc.undertemp = false →
      ∃ t, exec .undertempTimerExpiry s = .next t ∧ t.pending = s.pending ∧ t.station.exc.undertemp = true ∧
        t.station.exc.underS = 60 ∧ t.station.exc.state = .safeHold ∧ t.station.exc.kind = some .undertemp ∧
        t.station.sense = s.station.sense ∧ t.station.start = s.station.start)) ∧
  (∀ (n : Nat) (s : State), s.station.powered = true → s.station.press.gasTimer = some n →
    (s.station.press.gasRef + 2 ≤ s.station.sense.p →
      exec .gasOpenTimerExpiry s =
        .next ⟨{ s.station with
                 press.gasTimer := some 0
                 press.gasRef := s.station.sense.p }, s.pending⟩) ∧
    (s.station.sense.p < s.station.press.gasRef + 2 → s.station.exc.state = .normal → s.station.exc.h = false →
      ∃ t, exec .gasOpenTimerExpiry s = .next t ∧ t.pending = s.pending ∧ t.station.exc.state = .safeHold ∧
        t.station.exc.kind = some .gasSupply ∧ t.station.press.gas = false ∧
        t.station.pools.items.gas.posted = {} ∧ t.station.sense = s.station.sense))

/-! ## The program, its cycle, and the pressure period -/

/-- A control period posts the demands of the tables and starts the valve cycle with the in-use values then held. A
single bay, an unpaired lead and an orphan post the cooling and the heating demand of the error, the cooling one under
the freeze guard, each with its class, adjusted for the active excursion. A lead that heard its follower takes the
vessel's temperature, posts twice the demands, drives its half of the in-use values and gives the follower the other. A
follower under its lead posts nothing and applies the pair drive it holds, also one that was an orphan and has heard its
lead's claim. CHILL_REQ is driven exactly while CHILL is claimed. -/
def Obligations.ControlPeriodPostsAndStartsTheCycle : Prop :=
  (∀ (x sp : Int) (cap c0 h0 : Nat) (slope : Bool) (s : State), s.station.powered = true →
    s.station.prog.cycleOn = true → s.station.prog.pair ≠ .leadPaired → s.station.prog.pair ≠ .following →
    s.station.prog.vessel = false → s.station.prog.leadHeard = false → s.station.followHold = false →
    s.station.tAvg = some x → s.station.setpoint = some sp →
    cap =
      (match s.station.jacketT with
        | none => 4
        | some j => if j < -10 then 2 else if s.station.sense.jacket.state = .failed then 4 else 8) →
    c0 =
      min cap
        (if (s.station.start.setup.db : Int) < x - sp then
          min 8 (((x - sp - s.station.start.setup.db).toNat + 1) / 2)
        else if 0 < x - sp ∧ 0 < s.station.prog.bayC then 1 else 0) →
    h0 =
      (if x - sp < -(s.station.start.setup.db : Int) then
        min s.station.start.setup.hmax
          ((s.station.start.setup.hmax * (sp - x - s.station.start.setup.db).toNat + 9) / 10)
      else if x - sp < 0 ∧ 0 < s.station.prog.bayH ∧ 1 ≤ s.station.start.setup.hmax then 1 else 0) →
    slope = (s.station.keg.batch.any fun b => b.step.kind != .hold && !b.programEnd) →
    ∃ t, exec .controlPeriodStart s = .next t ∧ t.pending = s.pending ∧
      t.station.prog.bayC =
        (if s.station.inLockout || s.station.holdFor .kegLost || s.station.holdFor .undertemp then 0
          else if s.station.holdFor .probeLost then min cap 2 else c0) ∧
      t.station.prog.bayH =
        (if s.station.inLockout || s.station.holdFor .kegLost || s.station.holdFor .overtemp ||
            s.station.holdFor .probeLost then 0 else h0) ∧
      t.station.pools.items.chill.posted =
        ⟨t.station.prog.bayC,
          if t.station.prog.bayC = 0 then .idle
          else if s.station.holdFor .overtemp then .recover
          else if s.station.holdFor .probeLost then .hold
          else if slope || decide (s.station.start.setup.db + 10 < (x - sp).natAbs) then .pull else .hold⟩ ∧
      t.station.pools.items.heat.posted =
        ⟨t.station.prog.bayH,
          if t.station.prog.bayH = 0 then .idle
          else if s.station.holdFor .undertemp then .recover
          else if slope || decide (s.station.start.setup.db + 10 < (x - sp).natAbs) then .pull else .hold⟩ ∧
      t.station.chillReq = decide (0 < t.station.prog.bayC) ∧
      t.station.prog.cPrev = s.station.prog.bayC ∧ t.station.prog.hPrev = s.station.prog.bayH ∧
      t.station.prog.cycleMs = 0 ∧ t.station.prog.gated = !s.station.sense.chillRdy ∧
      t.station.prog.glycolMs = min 10000 (t.station.pools.items.chill.inUse * 1250) ∧
      t.station.prog.heaterMs =
        (if s.station.start.setup.hmax = 0 then 0
          else min 10000 (10000 * t.station.pools.items.heat.inUse / s.station.start.setup.hmax)) ∧
      t.station.prog.glycol =
        (decide (0 < t.station.prog.glycolMs) && s.station.sense.chillRdy && !s.station.inLockout) ∧
      t.station.prog.heater = (decide (0 < t.station.prog.heaterMs) && !s.station.inLockout) ∧
      t.station.keg = s.station.keg ∧ t.station.exc = s.station.exc ∧ t.station.sense = s.station.sense ∧
      t.station.start = s.station.start ∧ t.station.pour = s.station.pour) ∧
  (∀ (e : Peer) (b : Batch) (x : Int) (s : State), s.station.powered = true → s.station.prog.cycleOn = true →
    s.station.start.role = .lead → s.station.prog.pair = .leadPaired → s.station.prog.leadHeard = false →
    s.station.peer? (s.station.start.id + 1) = some e → e.state ≠ .absent → s.station.keg.batch = some b →
    s.station.exc.state = .normal → (∀ j, s.station.jacketT = some j → -10 ≤ j) →
    s.station.jacketT.isSome = true → s.station.sense.jacket.state = .ok →
    some x =
      (match s.station.tAvg, (if e.state = .present ∧ e.probeOk = true then e.temp else none) with
        | some m, some n => some ((m + n).tdiv 2)
        | some m, none => some m
        | none, n => n) →
    ∃ t, exec .controlPeriodStart s = .next t ∧ t.pending = s.pending ∧ t.station.prog.vessel = true ∧
      t.station.prog.bayC =
        (if (s.station.start.setup.db : Int) < x - b.setpoint then
            min 8 (((x - b.setpoint - s.station.start.setup.db).toNat + 1) / 2)
          else if 0 < x - b.setpoint ∧ 0 < s.station.prog.bayC then 1 else 0) ∧
      t.station.prog.bayH =
        (if x - b.setpoint < -(s.station.start.setup.db : Int) then
            min s.station.start.setup.hmax
              ((s.station.start.setup.hmax * (b.setpoint - x - s.station.start.setup.db).toNat + 9) / 10)
          else if x - b.setpoint < 0 ∧ 0 < s.station.prog.bayH ∧ 1 ≤ s.station.start.setup.hmax then 1 else 0) ∧
      t.station.pools.items.chill.posted.demand = 2 * t.station.prog.bayC ∧
      t.station.pools.items.heat.posted.demand = 2 * t.station.prog.bayH ∧
      t.station.chillReq = decide (0 < t.station.prog.bayC) ∧
      t.station.prog.glycolMs = min 10000 ((t.station.pools.items.chill.inUse + 1) / 2 * 1250) ∧
      t.station.prog.heaterMs =
        (if s.station.start.setup.hmax = 0 then 0
          else min 10000 (10000 * ((t.station.pools.items.heat.inUse + 1) / 2) / s.station.start.setup.hmax)) ∧
      t.station.prog.driveC = t.station.pools.items.chill.inUse / 2 ∧
      t.station.prog.driveH = t.station.pools.items.heat.inUse / 2 ∧ t.station.keg = s.station.keg ∧
      t.station.exc = s.station.exc ∧ t.station.sense = s.station.sense ∧ t.station.start = s.station.start) ∧
  (∀ s : State, s.station.powered = true → s.station.prog.cycleOn = true → s.station.start.role = .follower →
    s.station.prog.vessel = false →
    (s.station.prog.pair = .following ∧ s.station.prog.leadHeard = false) ∨
      (s.station.prog.pair = .orphan ∧ s.station.prog.leadHeard = true) →
    ∃ t, exec .controlPeriodStart s = .next t ∧ t.pending = s.pending ∧ t.station.prog.pair = .following ∧
      t.station.prog.leadHeard = false ∧ t.station.pools.items.chill.posted = {} ∧
      t.station.pools.items.heat.posted = {} ∧ t.station.chillReq = false ∧
      t.station.prog.appliedC =
        (match s.station.jacketT with
          | none => min s.station.prog.driveC 4
          | some j =>
              if j < -10 then min s.station.prog.driveC 2
              else if s.station.sense.jacket.state = .failed then min s.station.prog.driveC 4
              else s.station.prog.driveC) ∧
      t.station.prog.appliedH = s.station.prog.driveH ∧
      t.station.prog.glycolMs = min 10000 (t.station.prog.appliedC * 1250) ∧
      t.station.prog.heaterMs =
        (if s.station.start.setup.hmax = 0 then 0
          else min 10000 (10000 * s.station.prog.driveH / s.station.start.setup.hmax)) ∧
      t.station.prog.glycol =
        (decide (0 < t.station.prog.glycolMs) && s.station.sense.chillRdy && !s.station.inLockout) ∧
      t.station.prog.heater = (decide (0 < t.station.prog.heaterMs) && !s.station.inLockout) ∧
      t.station.sense = s.station.sense ∧ t.station.start = s.station.start)

/-- What changes an output within a cycle: the open time and the on time run out; CHILL_RDY deasserted closes the glycol
valve for the rest of the cycle and starts the starvation timer, which its assertion stops; the timer at 20 minutes sets
CHILL_STARVED where cooling is demanded. A level that has not held for 16 ms is no change (the operand is the model's,
log 23). The starvation expiry is taken where its timer runs (the model's choice, log 1). -/
def Obligations.CycleEventsMoveTheOutputs : Prop :=
  ∀ (m : Nat) (s : State), s.station.powered = true →
    (m < 16 → exec (.chillRdyAssert m) s = .next s ∧ exec (.chillRdyDeassert m) s = .next s) ∧
    (s.station.prog.glycol = true →
      ∃ t, exec .glycolOpenTimeEnd s = .next t ∧ t.pending = s.pending ∧ t.station.prog.glycol = false ∧
        t.station.prog.heater = s.station.prog.heater ∧
        { t.station with prog := s.station.prog, health := s.station.health } = s.station) ∧
    (s.station.prog.heater = true →
      ∃ t, exec .heaterOnTimeEnd s = .next t ∧ t.pending = s.pending ∧ t.station.prog.heater = false ∧
        t.station.prog.glycol = s.station.prog.glycol ∧
        { t.station with prog := s.station.prog, health := s.station.health } = s.station) ∧
    (16 ≤ m → s.station.sense.chillRdy = false →
      exec (.chillRdyAssert m) s =
        .next ⟨{ s.station with
                 sense.chillRdy := true
                 prog.starveMs := none }, s.pending⟩) ∧
    (16 ≤ m → s.station.sense.chillRdy = true →
      exec (.chillRdyDeassert m) s =
        .next ⟨{ s.station with
                 sense.chillRdy := false
                 prog.glycol := false
                 prog.gated := s.station.prog.gated || s.station.prog.cycleOn
                 prog.starveMs := some 0 }, s.pending⟩) ∧
    (∀ n, s.station.prog.starveMs = some n →
      ∃ t, exec .chillStarvationExpiry s = .next t ∧ t.pending = s.pending ∧
        t.station.prog = { s.station.prog with starveMs := some (max n 1200000) } ∧
        (0 < s.station.pools.items.chill.posted.demand → t.station.flag .chillStarved = true) ∧
        (s.station.pools.items.chill.posted.demand = 0 → t.station.req = s.station.req) ∧
        { t.station with prog := s.station.prog, link := s.station.link, req := s.station.req } = s.station)

/-- A minute of step time: the elapsed minutes rise, holding at the top of their range. A step whose duration they
reach ends, a HOLD with activity threshold apart: the next step becomes current with the setpoint that stood as its
ramp start, or on the final step the program ends; with its duration not reached, or none, it goes on. A HOLD with an
activity threshold ends at the minute where its duration is absent or reached and the twelve newest activity records
are all present and below the threshold, and else goes on. A CRASH whose in-band time is reached ends, and on the
final step ends the program. The minute and the in-band expiry are commands (the model's choice, log 1), and a minute
past the top of the range is tested too (log 53). -/
def Obligations.MinutesRunTheSteps : Prop :=
  ∀ (b b' : Batch) (s : State), s.station.powered = true → s.station.keg.batch = some b → s.station.exc.h = false →
    s.station.calm → b.run = true →
    b' = { b with stepMin := min 65535 (b.stepMin + 1) } →
    (b.programEnd = true ∨
        ((b.step.kind ≠ .hold ∨ b.step.threshold = none) ∧ b.step.duration.all (fun d => decide (b'.stepMin < d))) →
      ∃ t, exec .stepMinuteRise s = .next t ∧ t.pending = s.pending ∧ t.station.keg.batch = some b' ∧
        t.station.prog.secs = 0 ∧ t.station.exc.state = s.station.exc.state ∧ t.station.pour = s.station.pour ∧
        t.station.press = s.station.press ∧ t.station.pools = s.station.pools ∧ t.station.nv = s.station.nv) ∧
    (∀ d, b.step.duration = some d → b.programEnd = false → (b.step.kind ≠ .hold ∨ b.step.threshold = none) →
      d ≤ b'.stepMin →
      (b.stepIdx + 1 < b.profile.length →
        ∃ t, exec .stepMinuteRise s = .next t ∧ t.pending = s.pending ∧
          t.station.keg.batch =
            some { b with
              stepMin := 0, stepIdx := b.stepIdx + 1, rampStart := b'.setpoint
              phase := (b.profile.getD (b.stepIdx + 1) {}).tag } ∧
          t.station.flag .stepAdvanced = true ∧ t.station.exc.state = s.station.exc.state) ∧
      (b.profile.length ≤ b.stepIdx + 1 →
        ∃ t, exec .stepMinuteRise s = .next t ∧ t.pending = s.pending ∧
          t.station.keg.batch = some { b' with programEnd := true } ∧ t.station.flag .programEnd = true ∧
          t.station.exc.state = s.station.exc.state)) ∧
    (∀ th, b.step.threshold = some th → b.programEnd = false → b.step.kind = .hold →
      (b.step.duration = none ∨ b.step.duration.getD 0 ≤ b'.stepMin) ∧ 12 ≤ s.station.press.log.length ∧
        (∀ r ∈ s.station.press.log.drop (s.station.press.log.length - 12), r.activity.any (decide <| · < th) = true) →
      (b.stepIdx + 1 < b.profile.length →
        ∃ t, exec .stepMinuteRise s = .next t ∧ t.pending = s.pending ∧
          t.station.keg.batch =
            some { b with
              stepMin := 0, stepIdx := b.stepIdx + 1, rampStart := b'.setpoint
              phase := (b.profile.getD (b.stepIdx + 1) {}).tag } ∧
          t.station.flag .stepAdvanced = true ∧ t.station.exc.state = s.station.exc.state) ∧
      (b.profile.length ≤ b.stepIdx + 1 →
        ∃ t, exec .stepMinuteRise s = .next t ∧ t.pending = s.pending ∧
          t.station.keg.batch = some { b' with programEnd := true } ∧ t.station.flag .programEnd = true ∧
          t.station.exc.state = s.station.exc.state)) ∧
    (∀ th, b.step.threshold = some th → b.programEnd = false → b.step.kind = .hold →
      ¬((b.step.duration = none ∨ b.step.duration.getD 0 ≤ b'.stepMin) ∧ 12 ≤ s.station.press.log.length ∧
        (∀ r ∈ s.station.press.log.drop (s.station.press.log.length - 12), r.activity.any (decide <| · < th) = true)) →
      ∃ t, exec .stepMinuteRise s = .next t ∧ t.pending = s.pending ∧ t.station.keg.batch = some b' ∧
        t.station.prog.secs = 0 ∧ t.station.exc.state = s.station.exc.state ∧ t.station.press = s.station.press) ∧
    (b.programEnd = false → b.step.kind = .crash → 0 < s.station.prog.inBandS →
      (b.stepIdx + 1 < b.profile.length →
        ∃ t, exec .crashInBandExpiry s = .next t ∧ t.pending = s.pending ∧
          t.station.keg.batch =
            some { b with
              stepMin := 0, stepIdx := b.stepIdx + 1, rampStart := b.setpoint
              phase := (b.profile.getD (b.stepIdx + 1) {}).tag } ∧
          t.station.flag .stepAdvanced = true ∧ t.station.exc.state = s.station.exc.state) ∧
      (b.profile.length ≤ b.stepIdx + 1 →
        ∃ t, exec .crashInBandExpiry s = .next t ∧ t.pending = s.pending ∧
          t.station.keg.batch = some { b with programEnd := true } ∧ t.station.flag .programEnd = true ∧
          t.station.exc.state = s.station.exc.state))

/-- A pressure period in NORMAL with no pour and no test: in FREE the vent is open; in SPUND and CARB it follows its
band, the CARB target being computed from T and clamped into 0 to Pr, with CARB_LIMITED following the clamp, and the
CARB band's request follows its own; with P_t absent the band is around Pr and requests nothing. The GAS demand is
posted as the request stands with the vent closed. In SAFE_HOLD the vent is open exactly while P is above Pr under
OVERPRESSURE and closed under KEG_LOST; gas is posted under neither, nor under GAS_SUPPLY and LEAK; under the other
kinds the class is RECOVER. While a pour is ACTIVE or PAUSED the hold request follows its band, the vent its raised
levels, and the class is POUR. A pour in PRIMING is told at Fp + 2h, unless its gas is kept shut. A follower's period
runs its hour clock and the hour's marks alone. That the clock holds at 3,600 with the hour's end a command is the
model's choice (log 42); what keeps the gas shut is read as log 19 says. -/
def Obligations.PressurePeriodDecidesVentAndGas : Prop :=
  ∀ s : State, s.station.powered = true → s.station.press.on = true →
    (s.station.start.role = .follower →
      ∃ t, exec .pressurePeriod s = .next t ∧ t.pending = s.pending ∧
        t.station.press =
          { s.station.press with
            hourClock := min 3600 (s.station.press.hourClock + 1)
            wholeSpund := false
            eqMark := false
            tHi := t.station.press.tHi
            tLo := t.station.press.tLo
            lastMode := .free
            lastP := s.station.sense.p
            lastT := s.station.tAvg } ∧
        { t.station with press := s.station.press } = s.station) ∧
    (s.station.start.role ≠ .follower → s.station.exc.state = .normal → s.station.health.test = none →
      s.station.pour.active = none → s.station.press.primReq = false → s.station.press.holdReq = false →
      ∃ t, exec .pressurePeriod s = .next t ∧ t.pending = s.pending ∧
        t.station.press.hourClock = min 3600 (s.station.press.hourClock + 1) ∧
        (s.station.keg.batch = none → t.station.press.vent = true ∧ t.station.pools.items.gas.posted = {}) ∧
        (∀ b, s.station.keg.batch = some b → b.step.mode = .free →
          t.station.press.vent = true ∧ t.station.pools.items.gas.posted = {}) ∧
        (∀ b, s.station.keg.batch = some b → ∀ l, b.step.spund = some l → b.step.mode = .spund →
          t.station.press.vent =
            (if s.station.press.vent then decide (l < s.station.sense.p)
              else decide (l + s.station.start.setup.band < s.station.sense.p)) ∧
          t.station.pools.items.gas.posted = {} ∧
          t.station.press.acc =
            (if t.station.press.vent then
                min 65535
                  (s.station.press.acc + (s.station.sense.p + s.station.start.setup.pa) / 10)
              else s.station.press.acc)) ∧
        (∀ b, s.station.keg.batch = some b → ∀ x, s.station.tAvg = some x → b.step.mode = .carb →
          ∀ l, l = (carbTarget b.target s.station.start.setup.pa s.station.start.setup.pr x).1 →
          t.station.press.pt = some l ∧ l ≤ s.station.start.setup.pr ∧
          t.station.press.carbLimited = (carbTarget b.target s.station.start.setup.pa s.station.start.setup.pr x).2 ∧
          t.station.flag .carbLimited = t.station.press.carbLimited ∧
          t.station.press.vent =
            (if s.station.press.vent then decide (l < s.station.sense.p)
              else decide (l + s.station.start.setup.band < s.station.sense.p)) ∧
          t.station.press.bandReq =
            (if s.station.press.bandReq then decide (s.station.sense.p < l)
              else decide (s.station.sense.p + s.station.start.setup.band < l)) ∧
          t.station.pools.items.gas.posted =
            (if t.station.press.bandReq && !t.station.press.vent then ⟨1, .hold⟩ else {})) ∧
        (∀ b, s.station.keg.batch = some b → s.station.tAvg = none → b.step.mode = .carb →
          t.station.press.pt = none ∧ t.station.press.carbLimited = s.station.press.carbLimited ∧
          t.station.flag .carbLimited = s.station.flag .carbLimited ∧
          t.station.press.vent =
            (if s.station.press.vent then decide (s.station.start.setup.pr < s.station.sense.p)
              else decide (s.station.start.setup.pr + s.station.start.setup.band < s.station.sense.p)) ∧
          t.station.press.bandReq = false ∧ t.station.pools.items.gas.posted = {}) ∧
        t.station.press.gas =
          (decide (t.station.pools.items.gas.posted.demand = 1) && decide (t.station.pools.items.gas.inUse = 1)) ∧
        t.station.keg = s.station.keg ∧ t.station.exc = s.station.exc ∧ t.station.pour = s.station.pour ∧
        t.station.sense = s.station.sense ∧ t.station.start = s.station.start) ∧
    (∀ k, s.station.start.role ≠ .follower → s.station.exc.state = .safeHold → s.station.exc.kind = some k →
      s.station.health.test = none → s.station.pour.active = none → s.station.press.primReq = false →
      s.station.press.holdReq = false →
      ∃ t, exec .pressurePeriod s = .next t ∧ t.pending = s.pending ∧
        (k = .overpressure → t.station.press.vent = decide (s.station.start.setup.pr < s.station.sense.p)) ∧
        (k = .kegLost → t.station.press.vent = false) ∧
        (∀ b, s.station.keg.batch = some b → ∀ l, b.step.spund = some l → b.step.mode = .spund →
          k ≠ .overpressure → k ≠ .kegLost →
          t.station.press.vent =
            (if s.station.press.vent then decide (l < s.station.sense.p)
              else decide (l + s.station.start.setup.band < s.station.sense.p))) ∧
        t.station.pools.items.gas.posted =
          (if t.station.press.bandReq && !t.station.press.vent &&
              !(k == .overpressure || k == .kegLost || k == .gasSupply || k == .leak) then ⟨1, .recover⟩
            else {}) ∧
        t.station.press.gas =
          (decide (t.station.pools.items.gas.posted.demand = 1) && decide (t.station.pools.items.gas.inUse = 1)) ∧
        t.station.exc = s.station.exc ∧ t.station.pour = s.station.pour) ∧
    (∀ a, s.station.pour.active = some a → s.station.start.role ≠ .follower → a.stage ≠ .priming →
      s.station.exc.state = .normal → s.station.health.test = none →
      ∃ t, exec .pressurePeriod s = .next t ∧ t.pending = s.pending ∧
        t.station.press.holdReq =
          (if s.station.press.holdReq then
              decide (s.station.sense.p < s.station.start.setup.fp + 2 * s.station.start.setup.band)
            else decide (s.station.sense.p < s.station.start.setup.fp + s.station.start.setup.band)) ∧
        (∀ b, s.station.keg.batch = some b → b.step.mode = .free →
          t.station.press.vent =
            (if s.station.press.vent then
                decide (s.station.start.setup.fp + 2 * s.station.start.setup.band < s.station.sense.p)
              else decide (s.station.start.setup.fp + 3 * s.station.start.setup.band < s.station.sense.p))) ∧
        (∀ b, s.station.keg.batch = some b → b.step.mode ≠ .free → ∀ l, t.station.target = some l →
          t.station.press.vent =
            (if s.station.press.vent then
                decide (max l (s.station.start.setup.fp + 2 * s.station.start.setup.band) < s.station.sense.p)
              else
                decide
                  (max (l + s.station.start.setup.band) (s.station.start.setup.fp + 3 * s.station.start.setup.band) <
                    s.station.sense.p))) ∧
        t.station.pools.items.gas.posted =
          (if (t.station.press.bandReq || t.station.press.holdReq || s.station.press.primReq) &&
              !t.station.press.vent then ⟨1, .pour⟩
            else {}) ∧
        t.station.press.gas =
          (decide (t.station.pools.items.gas.posted.demand = 1) && decide (t.station.pools.items.gas.inUse = 1)) ∧
        t.station.exc = s.station.exc ∧ t.station.pour = s.station.pour) ∧
    (∀ a, s.station.pour.active = some a → s.station.start.role ≠ .follower → a.stage = .priming →
      s.station.start.setup.fp + 2 * s.station.start.setup.band ≤ s.station.sense.p →
      (s.station.exc.state = .normal → s.station.health.test = none → s.station.pools.items.gas.inUse ≠ 0 →
        (∀ l, a.closeLevel = some l → a.delivered < l) →
        ∃ t, exec .pressurePeriod s = .next t ∧ t.pending = s.pending ∧ t.station.pour.tap = true ∧
          t.station.pour.active = some { a with stage := .active, stageMs := 0, everActive := true } ∧
          t.station.press.primReq = false ∧ t.station.pour.queue = s.station.pour.queue) ∧
      (s.station.exc.state = .lockout ∨ s.station.health.test.isSome = true ∨
          s.station.pools.items.gas.inUse = 0 →
        ∃ t, exec .pressurePeriod s = .next t ∧ t.pending = s.pending ∧ t.station.pour = s.station.pour ∧
          t.station.press.primReq = s.station.press.primReq))

/-- The solubility is the knot table of the manual, interpolated and rounded to the nearest unit; it lies from 66 to
180. -/
def Obligations.SolubilityIsInterpolated : Prop :=
  ∀ (t : Int) (k : List Nat) (x : Int) (i f a b : Nat),
    k = [180, 169, 159, 149, 140, 131, 123, 116, 109, 102, 96, 90, 85, 79, 75, 70, 66] →
    x = max (-20) (min 300 t) → i = (x + 20).toNat / 20 → f = (x + 20).toNat - 20 * i →
    a = k.getD i 0 → b = k.getD (i + 1) 0 →
    i ≤ 16 ∧ (i = 16 ↔ x = 300) ∧ f ≤ 19 ∧
    (i = 16 → solubility t = 66) ∧
    (i < 16 → b < a ∧ solubility t = a - ((a - b) * f + 10) / 20 ∧ b ≤ solubility t ∧ solubility t ≤ a) ∧
    66 ≤ solubility t ∧ solubility t ≤ 180 ∧
    solubility (-20) = 180 ∧ solubility 130 = 112 ∧ solubility 299 = 66

/-- The carbonation target: the nearest kPa of 100 C / σ less the ambient pressure, brought into 0 to Pr. -/
def Obligations.CarbonationTargetIsRoundedAndClamped : Prop :=
  ∀ (c pa pr : Nat) (t : Int) (q : Nat), 100 ≤ c → c ≤ 400 →
    q = (100 * c + solubility t / 2) / solubility t →
    56 ≤ q ∧ q ≤ 606 ∧
    (q < pa → carbTarget c pa pr t = (0, false)) ∧
    (pa ≤ q → q - pa ≤ pr → carbTarget c pa pr t = (q - pa, false)) ∧
    (pa + pr < q → carbTarget c pa pr t = (pr, true))

/-- An hour's end with a batch appends its record to the activity log, the oldest of 24 leaving, and begins the next
hour; an hour with its equilibrium mark set writes the carbonation estimate, and one without it leaves the estimate. The
record is tested by a HOLD step with an activity threshold while step time counts: the step ends where its duration is
absent or has run and the twelve newest records are all present and below the threshold. The hour ends at the command's
word, whatever its clock holds (the model's choice, log 1, log 42). -/
def Obligations.HourEndLogsTheHour : Prop :=
  ∀ (b : Batch) (n : Nat) (l : List ActRec) (s : State), s.station.powered = true → s.station.press.on = true →
    s.station.start.role ≠ .follower → s.station.keg.batch = some b →
    n = (if s.station.press.hourCount = 65535 then 1 else s.station.press.hourCount + 1) →
    l =
      (if s.station.press.log.length < 24 then s.station.press.log else s.station.press.log.drop 1) ++
        [{ hour := n, mode := s.station.press.lastMode
           activity := if s.station.press.wholeSpund then some s.station.press.acc else none }] →
    (b.step.threshold = none ∨ b.run = false ∨ s.station.exc.h = true ∨ b.programEnd = true →
      ∃ t, exec .hourEnd s = .next t ∧ t.pending = s.pending ∧ t.station.press.hourCount = n ∧
        t.station.press.hourClock = 0 ∧ t.station.press.log = l ∧
        t.station.press.acc = 0 ∧ t.station.press.wholeSpund = true ∧ t.station.press.eqMark = true ∧
        t.station.press.tHi = none ∧ t.station.press.tLo = none ∧
        (s.station.press.eqMark = false → t.station.keg = s.station.keg) ∧
        (∀ x, s.station.press.lastT = some x → s.station.press.eqMark = true →
          t.station.keg.batch =
            some { b with
              est := some (min 999
                (((s.station.press.lastP + s.station.start.setup.pa) * solubility x + 50) / 100)) }) ∧
        { t.station with keg := s.station.keg, press := s.station.press } = s.station) ∧
    (∀ th, b.step.threshold = some th → b.run = true → s.station.exc.h = false → b.programEnd = false →
      b.step.kind = .hold → s.station.press.eqMark = false → s.station.calm →
      ((b.step.duration = none ∨ b.step.duration.getD 0 ≤ b.stepMin) ∧ 12 ≤ l.length ∧
          (∀ r ∈ l.drop (l.length - 12), r.activity.any (decide <| · < th) = true) →
        b.stepIdx + 1 < b.profile.length →
        ∃ t, exec .hourEnd s = .next t ∧ t.pending = s.pending ∧ t.station.press.log = l ∧
          t.station.keg.batch =
            some { b with
              stepMin := 0, stepIdx := b.stepIdx + 1, rampStart := b.setpoint
              phase := (b.profile.getD (b.stepIdx + 1) {}).tag } ∧
          t.station.flag .stepAdvanced = true ∧ t.station.exc.state = s.station.exc.state) ∧
      (¬((b.step.duration = none ∨ b.step.duration.getD 0 ≤ b.stepMin) ∧ 12 ≤ l.length ∧
          (∀ r ∈ l.drop (l.length - 12), r.activity.any (decide <| · < th) = true)) →
        ∃ t, exec .hourEnd s = .next t ∧ t.pending = s.pending ∧ t.station.press.log = l ∧
          t.station.keg = s.station.keg ∧
          { t.station with press := s.station.press } = s.station))

/-! ## Invariants of every step -/

/-- In-use stays within the grant and the grant within the own demand in every pool, and the view holds no entry for the
station itself. -/
def Obligations.PoolBoundsAreKept : Prop :=
  ∀ s t : State, s.station.poolsBounded → step s = .next t → t.station.poolsBounded

/-- The gas valve is open only on a posted demand and an in-use value of 1, an open vent leaves no demand posted, so the
two valves are never open together; the tap is open only while a pour is ACTIVE, and no pour starts while another is in
its drain window. -/
def Obligations.ValvesAreKeptSafe : Prop :=
  (∀ s : Station, s.gasSafe → ¬(s.press.gas = true ∧ s.press.vent = true)) ∧
    (∀ s t : State, s.station.gasSafe → step s = .next t → t.station.gasSafe) ∧
    (∀ s t : State, s.station.tapSafe → step s = .next t → t.station.tapSafe) ∧
    (∀ s t : State, s.station.onePour → step s = .next t → t.station.onePour)

/-- Every step keeps the station state legal: a clear H means NORMAL with roll call finished, SAFE_HOLD and LOCKOUT have
H set and a kind, NORMAL has none, and NORMAL past the window has H clear. Every step keeps the keg record's state
legal: OFF exactly with no batch, the commit timer only in DIRTY with no commit in flight, and the pending mark only
with a commit in flight or a restart pending. -/
def Obligations.StationStateIsKeptLegal : Prop :=
  (∀ s t : State, s.station.stateLegal → step s = .next t → t.station.stateLegal) ∧
    (∀ s t : State, s.station.recordLegal → step s = .next t → t.station.recordLegal)

/-- Every step keeps the images at their lengths and every list within its number of entries. Every step keeps the
stored image failing its check while a commit is in flight, and the setup block while a setup write is. -/
def Obligations.SizesAndFailingChecksAreKept : Prop :=
  (∀ s t : State, s.station.sizesOk → step s = .next t → t.station.sizesOk) ∧
    (∀ s t : State, s.station.tornOk → step s = .next t → t.station.tornOk)

/-- The state after reset satisfies every invariant. -/
def Obligations.ResetSatisfiesTheInvariants : Prop :=
  State.reset.station.poolsBounded ∧ State.reset.station.gasSafe ∧ State.reset.station.tapSafe ∧
    State.reset.station.onePour ∧ State.reset.station.stateLegal ∧ State.reset.station.recordLegal ∧
      State.reset.station.sizesOk ∧
    State.reset.station.tornOk ∧ State.reset.pending = []

/-! ## Health attributes -/

/-- The measurements of the three attributes that no leak test makes, and their states and flags. The thousandth frame
of a window, in error or not, measures LINK_QUALITY as the errored ones; a pour completed in SERVE that brings the
poured count to 10 litres measures GAS_PER_LITRE and clears both counts; the first in-band period of a CRASH measures
CHILL_RESPONSE, or else the end of its step, unless the measurement is void or the valve was open for less than a
minute, and the step becoming current opens it. The state is decided from the value and the worst value kept. A change
into WARN from OK sets HEALTH_WARN, one into TRIPPED sets HEALTH_TRIP, and no other sets a flag. That every frame
dropped under a check counts in the window is the model's reading (log 57); that the rest of the cycle has passed at
the command (log 1) and that the in-band time holds at 4,294,967,295 s (log 60) are its choices. -/
def Obligations.HealthAttributesAreMeasuredAndGraded : Prop :=
  (∀ (bits : List Bool) (v : Nat) (s : State), s.station.powered = true → s.station.link.idleSeen = true →
    receiveBits bits = none → s.station.health.winCount = 999 → v = s.station.health.winErr + 1 →
    ∃ t, exec (.frameReceived bits) s = .next t ∧ t.pending = s.pending ∧
      t.station.health =
        { s.station.health with
          winCount := 0
          winErr := 0
          linkQ :=
            { cur := some v
              worst := some (match s.station.health.linkQ.worst with | none => v | some w => max w v)
              state := if v ≤ 37 then .ok else if v ≤ 50 then .warn else .tripped } } ∧
      (v ≤ 37 ∨ t.station.health.linkQ.state = s.station.health.linkQ.state ∨
          (s.station.health.linkQ.state = .tripped ∧ v ≤ 50) →
        t.station.req = s.station.req) ∧
      (s.station.health.linkQ.state = .ok → 38 ≤ v → v ≤ 50 →
        t.station.flag .healthWarn = true ∧ t.station.flag .healthTrip = s.station.flag .healthTrip) ∧
      (s.station.health.linkQ.state ≠ .tripped → 51 ≤ v →
        t.station.flag .healthTrip = true ∧ t.station.flag .healthWarn = s.station.flag .healthWarn)) ∧
  (∀ (bits : List Bool) (f : Frame) (v : Nat) (s : State), s.station.powered = true →
    s.station.link.idleSeen = true → receiveBits bits = some f → 5 ≤ f.kind.toNat →
    f.sender.toNat ≠ s.station.start.id → s.station.health.winCount = 999 → v = s.station.health.winErr →
    ∃ t, exec (.frameReceived bits) s = .next t ∧ t.pending = s.pending ∧
      t.station.health =
        { s.station.health with
          winCount := 0
          winErr := 0
          linkQ :=
            { cur := some v
              worst := some (match s.station.health.linkQ.worst with | none => v | some w => max w v)
              state := if v ≤ 37 then .ok else if v ≤ 50 then .warn else .tripped } } ∧
      t.station.link.errored = s.station.link.errored) ∧
  (∀ (d : DrainPour) (b : Batch) (n v : Nat) (s : State), s.station.powered = true →
    s.station.pour.drain = some d → s.station.keg.batch = some b → b.phase = .serve →
    n = s.station.health.poured + d.delivered → v = s.station.health.gasCount * 1000 / n →
    ∃ t, exec .drainWindowEnd s = .next t ∧ t.pending = s.pending ∧
      (n < 10000 →
        t.station.health.poured = n ∧ t.station.health.gasCount = s.station.health.gasCount ∧
          t.station.health.gasPerL = s.station.health.gasPerL) ∧
      (10000 ≤ n →
        t.station.health.poured = 0 ∧ t.station.health.gasCount = 0 ∧
          t.station.health.gasPerL =
            { cur := some v
              worst := some (match s.station.health.gasPerL.worst with | none => v | some w => max w v)
              state := if v ≤ 14 then .ok else if v ≤ 20 then .warn else .tripped } ∧
          (s.station.health.gasPerL.state = .ok → 15 ≤ v → v ≤ 20 → t.station.flag .healthWarn = true) ∧
          (s.station.health.gasPerL.state ≠ .tripped → 21 ≤ v → t.station.flag .healthTrip = true))) ∧
  (∀ (m : ChillMeas) (b : Batch) (x : Int) (ms : Nat) (s : State), s.station.powered = true →
    s.station.prog.cycleOn = true → s.station.start.role = .single → s.station.prog.pair = .single →
    s.station.prog.vessel = false → s.station.exc.state = .normal → s.station.exc.h = false →
    s.station.keg.batch = some b → b.run = true → b.step.kind = .crash → s.station.health.meas = some m →
    s.station.tAvg = some x → x - b.step.target ≤ 5 → b.step.target - x ≤ 5 →
    ms = m.openMs + (if s.station.prog.glycol then 10000 - s.station.prog.cycleMs else 0) →
    ∃ t, exec .controlPeriodStart s = .next t ∧ t.pending = s.pending ∧ t.station.health.meas = none ∧
      t.station.prog.inBandS = min 4294967295 (s.station.prog.inBandS + 10) ∧
      (m.start = none ∨ ms < 60000 → t.station.health.chill = s.station.health.chill) ∧
      (∀ x0, m.start = some x0 → 60000 ≤ ms →
        ∀ v, v = (x0 - x).toNat * 60000 / ms →
          t.station.health.chill =
              { cur := some v
                worst := some (match s.station.health.chill.worst with | none => v | some w => min w v)
                state := if 3 ≤ v then .ok else if 2 ≤ v then .warn else .tripped } ∧
            (s.station.health.chill.state = .ok → v = 2 → t.station.flag .healthWarn = true) ∧
            (s.station.health.chill.state ≠ .tripped → v < 2 → t.station.flag .healthTrip = true))) ∧
  (∀ (m : ChillMeas) (b : Batch) (x : Int) (s : State), s.station.admitsOwn → s.station.exc.state = .normal →
    s.station.prog.vessel = false → s.station.keg.batch = some b → b.programEnd = false →
    b.stepIdx + 1 < b.profile.length → (b.profile.getD (b.stepIdx + 1) {}).kind ≠ .crash → s.station.calm →
    s.station.health.meas = some m → s.station.tAvg = some x →
    ∃ t, exec (.advanceStep []) s = .next t ∧ t.pending = s.pending ∧ t.station.health.meas = none ∧
      (m.start = none ∨ m.openMs < 60000 → t.station.health.chill = s.station.health.chill) ∧
      (∀ x0, m.start = some x0 → 60000 ≤ m.openMs →
        ∀ v, v = (x0 - x).toNat * 60000 / m.openMs →
          t.station.health.chill =
              { cur := some v
                worst := some (match s.station.health.chill.worst with | none => v | some w => min w v)
                state := if 3 ≤ v then .ok else if 2 ≤ v then .warn else .tripped } ∧
            (s.station.health.chill.state = .ok → v = 2 → t.station.flag .healthWarn = true) ∧
            (s.station.health.chill.state ≠ .tripped → v < 2 → t.station.flag .healthTrip = true))) ∧
  (∀ (b : Batch) (s : State), s.station.admitsOwn → s.station.exc.state ≠ .lockout →
    s.station.keg.batch = some b → b.programEnd = false → b.stepIdx + 1 < b.profile.length →
    (b.profile.getD (b.stepIdx + 1) {}).kind = .crash → s.station.calm →
    ∃ t, exec (.advanceStep []) s = .next t ∧ t.pending = s.pending ∧
      t.station.health.meas = some { start := s.station.controlT, openMs := 0 }) ∧
  (∀ (old new : AttrState) (s : Station),
    (old = .ok → new = .warn → gradeFlags old new s = setFlag .healthWarn s) ∧
    (old ≠ .tripped → new = .tripped → gradeFlags old new s = setFlag .healthTrip s) ∧
    (old = new ∨ new = .ok ∨ (old = .tripped ∧ new = .warn) → gradeFlags old new s = s))
end

