-- ==== Sys2Proof/Laws/Frames.lean ====
section
/-! SUPPORT. One lemma for each operation: the units of the station that it leaves as they are. No later
proof unfolds an operation to know what it does not touch. -/
namespace Sys2Proof.Machine
open Sys2Proof

@[simp] theorem placeReport_frame (s : Station) :
    (placeReport s).nv = s.nv ∧ (placeReport s).start = s.start ∧ (placeReport s).sense = s.sense ∧
    (placeReport s).keg = s.keg ∧ (placeReport s).prog = s.prog ∧ (placeReport s).press = s.press ∧
    (placeReport s).pools = s.pools ∧ (placeReport s).pour = s.pour ∧ (placeReport s).exc = s.exc ∧
    (placeReport s).health = s.health ∧ (placeReport s).req = s.req ∧ (placeReport s).subMs = s.subMs := by
  simp only [placeReport]
  (repeat' split) <;> simp

@[simp] theorem setFlag_frame (f : Flag) (s : Station) :
    (setFlag f s).nv = s.nv ∧ (setFlag f s).start = s.start ∧ (setFlag f s).sense = s.sense ∧
    (setFlag f s).keg = s.keg ∧ (setFlag f s).prog = s.prog ∧ (setFlag f s).press = s.press ∧
    (setFlag f s).pools = s.pools ∧ (setFlag f s).pour = s.pour ∧ (setFlag f s).exc = s.exc ∧
    (setFlag f s).health = s.health ∧ (setFlag f s).subMs = s.subMs := by
  simp only [setFlag]
  (repeat' split) <;> simp

@[simp] theorem clearFlag_frame (f : Flag) (s : Station) :
    (clearFlag f s).nv = s.nv ∧ (clearFlag f s).start = s.start ∧ (clearFlag f s).sense = s.sense ∧
    (clearFlag f s).keg = s.keg ∧ (clearFlag f s).prog = s.prog ∧ (clearFlag f s).press = s.press ∧
    (clearFlag f s).pools = s.pools ∧ (clearFlag f s).link = s.link ∧ (clearFlag f s).pour = s.pour ∧
    (clearFlag f s).exc = s.exc ∧ (clearFlag f s).health = s.health ∧ (clearFlag f s).subMs = s.subMs := by
  simp only [clearFlag]
  (repeat' split) <;> simp

@[simp] theorem setFlagIf_frame (c : Bool) (f : Flag) (s : Station) :
    (setFlagIf c f s).nv = s.nv ∧ (setFlagIf c f s).start = s.start ∧ (setFlagIf c f s).sense = s.sense ∧
    (setFlagIf c f s).keg = s.keg ∧ (setFlagIf c f s).prog = s.prog ∧ (setFlagIf c f s).press = s.press ∧
    (setFlagIf c f s).pools = s.pools ∧ (setFlagIf c f s).pour = s.pour ∧ (setFlagIf c f s).exc = s.exc ∧
    (setFlagIf c f s).health = s.health ∧ (setFlagIf c f s).subMs = s.subMs := by
  simp only [setFlagIf]
  (repeat' split) <;> simp

@[simp] theorem noteChange_frame (s : Station) :
    (noteChange s).nv = s.nv ∧ (noteChange s).start = s.start ∧ (noteChange s).sense = s.sense ∧
    (noteChange s).prog = s.prog ∧ (noteChange s).press = s.press ∧ (noteChange s).pools = s.pools ∧
    (noteChange s).link = s.link ∧ (noteChange s).pour = s.pour ∧ (noteChange s).exc = s.exc ∧
    (noteChange s).health = s.health ∧ (noteChange s).req = s.req ∧ (noteChange s).subMs = s.subMs := by
  simp only [noteChange]
  (repeat' split) <;> simp

@[simp] theorem writeBatch_frame (f : Batch → Batch) (s : Station) :
    (writeBatch f s).nv = s.nv ∧ (writeBatch f s).start = s.start ∧ (writeBatch f s).sense = s.sense ∧
    (writeBatch f s).prog = s.prog ∧ (writeBatch f s).press = s.press ∧ (writeBatch f s).pools = s.pools ∧
    (writeBatch f s).link = s.link ∧ (writeBatch f s).pour = s.pour ∧ (writeBatch f s).exc = s.exc ∧
    (writeBatch f s).health = s.health ∧ (writeBatch f s).req = s.req ∧ (writeBatch f s).subMs = s.subMs := by
  simp only [writeBatch]
  (repeat' split) <;> simp

@[simp] theorem writeTapLock_frame (l : Bool) (s : Station) :
    (writeTapLock l s).nv = s.nv ∧ (writeTapLock l s).start = s.start ∧ (writeTapLock l s).sense = s.sense ∧
    (writeTapLock l s).prog = s.prog ∧ (writeTapLock l s).press = s.press ∧ (writeTapLock l s).pools = s.pools ∧
    (writeTapLock l s).link = s.link ∧ (writeTapLock l s).pour = s.pour ∧ (writeTapLock l s).exc = s.exc ∧
    (writeTapLock l s).health = s.health ∧ (writeTapLock l s).req = s.req ∧ (writeTapLock l s).subMs = s.subMs := by
  simp only [writeTapLock]
  (repeat' split) <;> simp

@[simp] theorem startCommit_frame (s : Station) :
    (startCommit s).start = s.start ∧ (startCommit s).sense = s.sense ∧ (startCommit s).prog = s.prog ∧
    (startCommit s).press = s.press ∧ (startCommit s).pools = s.pools ∧ (startCommit s).link = s.link ∧
    (startCommit s).pour = s.pour ∧ (startCommit s).exc = s.exc ∧ (startCommit s).health = s.health ∧
    (startCommit s).req = s.req ∧ (startCommit s).subMs = s.subMs := by
  simp only [startCommit]
  (repeat' split) <;> simp

@[simp] theorem commitTrigger_frame (s : Station) :
    (commitTrigger s).start = s.start ∧ (commitTrigger s).sense = s.sense ∧ (commitTrigger s).prog = s.prog ∧
    (commitTrigger s).press = s.press ∧ (commitTrigger s).pools = s.pools ∧ (commitTrigger s).link = s.link ∧
    (commitTrigger s).pour = s.pour ∧ (commitTrigger s).exc = s.exc ∧ (commitTrigger s).health = s.health ∧
    (commitTrigger s).req = s.req ∧ (commitTrigger s).subMs = s.subMs := by
  simp only [commitTrigger]
  (repeat' split) <;> simp

@[simp] theorem oneTrigger_frame (b : Station) (s : Station) :
    (oneTrigger b s).nv = s.nv ∧ (oneTrigger b s).start = s.start ∧ (oneTrigger b s).sense = s.sense ∧
    (oneTrigger b s).prog = s.prog ∧ (oneTrigger b s).press = s.press ∧ (oneTrigger b s).pools = s.pools ∧
    (oneTrigger b s).link = s.link ∧ (oneTrigger b s).pour = s.pour ∧ (oneTrigger b s).exc = s.exc ∧
    (oneTrigger b s).health = s.health ∧ (oneTrigger b s).req = s.req ∧ (oneTrigger b s).subMs = s.subMs := by
  simp only [oneTrigger]
  (repeat' split) <;> simp

@[simp] theorem restartTimer_frame (s : Station) :
    (restartTimer s).nv = s.nv ∧ (restartTimer s).start = s.start ∧ (restartTimer s).sense = s.sense ∧
    (restartTimer s).prog = s.prog ∧ (restartTimer s).press = s.press ∧ (restartTimer s).pools = s.pools ∧
    (restartTimer s).link = s.link ∧ (restartTimer s).pour = s.pour ∧ (restartTimer s).exc = s.exc ∧
    (restartTimer s).health = s.health ∧ (restartTimer s).req = s.req ∧ (restartTimer s).subMs = s.subMs := by
  simp only [restartTimer]
  (repeat' split) <;> simp

@[simp] theorem afterCommit_frame (s : Station) :
    (afterCommit s).start = s.start ∧ (afterCommit s).sense = s.sense ∧ (afterCommit s).prog = s.prog ∧
    (afterCommit s).press = s.press ∧ (afterCommit s).pools = s.pools ∧ (afterCommit s).link = s.link ∧
    (afterCommit s).pour = s.pour ∧ (afterCommit s).exc = s.exc ∧ (afterCommit s).health = s.health ∧
    (afterCommit s).subMs = s.subMs := by
  simp only [afterCommit]
  (repeat' split) <;> simp

@[simp] theorem completeCommit_frame (c : Commit) (s : Station) :
    (completeCommit c s).start = s.start ∧ (completeCommit c s).sense = s.sense ∧ (completeCommit c s).prog = s.prog ∧
    (completeCommit c s).press = s.press ∧ (completeCommit c s).pools = s.pools ∧ (completeCommit c s).link = s.link ∧
    (completeCommit c s).pour = s.pour ∧ (completeCommit c s).exc = s.exc ∧ (completeCommit c s).health = s.health ∧
    (completeCommit c s).subMs = s.subMs := by
  simp only [completeCommit]
  (repeat' split) <;> simp

@[simp] theorem commitTimerOut_frame (s : Station) :
    (commitTimerOut s).start = s.start ∧ (commitTimerOut s).sense = s.sense ∧ (commitTimerOut s).prog = s.prog ∧
    (commitTimerOut s).press = s.press ∧ (commitTimerOut s).pools = s.pools ∧ (commitTimerOut s).link = s.link ∧
    (commitTimerOut s).pour = s.pour ∧ (commitTimerOut s).exc = s.exc ∧ (commitTimerOut s).health = s.health ∧
    (commitTimerOut s).req = s.req ∧ (commitTimerOut s).subMs = s.subMs := by
  simp only [commitTimerOut]
  (repeat' split) <;> simp

@[simp] theorem batchMinute_frame (s : Station) :
    (batchMinute s).nv = s.nv ∧ (batchMinute s).start = s.start ∧ (batchMinute s).sense = s.sense ∧
    (batchMinute s).prog = s.prog ∧ (batchMinute s).press = s.press ∧ (batchMinute s).pools = s.pools ∧
    (batchMinute s).link = s.link ∧ (batchMinute s).pour = s.pour ∧ (batchMinute s).exc = s.exc ∧
    (batchMinute s).health = s.health ∧ (batchMinute s).req = s.req ∧ (batchMinute s).subMs = s.subMs := by
  simp only [batchMinute]
  (repeat' split) <;> simp

@[simp] theorem writePour_frame (d : Nat) (s : Station) :
    (writePour d s).nv = s.nv ∧ (writePour d s).start = s.start ∧ (writePour d s).sense = s.sense ∧
    (writePour d s).prog = s.prog ∧ (writePour d s).press = s.press ∧ (writePour d s).pools = s.pools ∧
    (writePour d s).link = s.link ∧ (writePour d s).pour = s.pour ∧ (writePour d s).exc = s.exc ∧
    (writePour d s).health = s.health ∧ (writePour d s).req = s.req ∧ (writePour d s).subMs = s.subMs := by
  simp only [writePour]
  (repeat' split) <;> simp

@[simp] theorem cycleReaches_frame (n : Nat) (s : Station) :
    (cycleReaches n s).nv = s.nv ∧ (cycleReaches n s).start = s.start ∧ (cycleReaches n s).sense = s.sense ∧
    (cycleReaches n s).keg = s.keg ∧ (cycleReaches n s).press = s.press ∧ (cycleReaches n s).pools = s.pools ∧
    (cycleReaches n s).link = s.link ∧ (cycleReaches n s).pour = s.pour ∧ (cycleReaches n s).exc = s.exc ∧
    (cycleReaches n s).req = s.req ∧ (cycleReaches n s).subMs = s.subMs := by
  simp only [cycleReaches]
  (repeat' split) <;> simp

@[simp] theorem setGlycolTime_frame (t : Nat) (s : Station) :
    (setGlycolTime t s).nv = s.nv ∧ (setGlycolTime t s).start = s.start ∧ (setGlycolTime t s).sense = s.sense ∧
    (setGlycolTime t s).keg = s.keg ∧ (setGlycolTime t s).press = s.press ∧ (setGlycolTime t s).pools = s.pools ∧
    (setGlycolTime t s).link = s.link ∧ (setGlycolTime t s).pour = s.pour ∧ (setGlycolTime t s).exc = s.exc ∧
    (setGlycolTime t s).health = s.health ∧ (setGlycolTime t s).req = s.req ∧ (setGlycolTime t s).subMs = s.subMs := by
  simp only [setGlycolTime]
  (repeat' split) <;> simp

@[simp] theorem setHeaterTime_frame (t : Nat) (s : Station) :
    (setHeaterTime t s).nv = s.nv ∧ (setHeaterTime t s).start = s.start ∧ (setHeaterTime t s).sense = s.sense ∧
    (setHeaterTime t s).keg = s.keg ∧ (setHeaterTime t s).press = s.press ∧ (setHeaterTime t s).pools = s.pools ∧
    (setHeaterTime t s).link = s.link ∧ (setHeaterTime t s).pour = s.pour ∧ (setHeaterTime t s).exc = s.exc ∧
    (setHeaterTime t s).health = s.health ∧ (setHeaterTime t s).req = s.req ∧ (setHeaterTime t s).subMs = s.subMs := by
  simp only [setHeaterTime]
  (repeat' split) <;> simp

@[simp] theorem setPairDrive_frame (s : Station) :
    (setPairDrive s).nv = s.nv ∧ (setPairDrive s).start = s.start ∧ (setPairDrive s).sense = s.sense ∧
    (setPairDrive s).keg = s.keg ∧ (setPairDrive s).press = s.press ∧ (setPairDrive s).pools = s.pools ∧
    (setPairDrive s).link = s.link ∧ (setPairDrive s).pour = s.pour ∧ (setPairDrive s).exc = s.exc ∧
    (setPairDrive s).health = s.health ∧ (setPairDrive s).req = s.req ∧ (setPairDrive s).subMs = s.subMs := by
  simp only [setPairDrive]
  (repeat' split) <;> simp

@[simp] theorem chillFalls_frame (v : Nat) (s : Station) :
    (chillFalls v s).nv = s.nv ∧ (chillFalls v s).start = s.start ∧ (chillFalls v s).sense = s.sense ∧
    (chillFalls v s).keg = s.keg ∧ (chillFalls v s).press = s.press ∧ (chillFalls v s).pools = s.pools ∧
    (chillFalls v s).link = s.link ∧ (chillFalls v s).pour = s.pour ∧ (chillFalls v s).exc = s.exc ∧
    (chillFalls v s).health = s.health ∧ (chillFalls v s).req = s.req ∧ (chillFalls v s).subMs = s.subMs := by
  simp only [chillFalls]
  (repeat' split) <;> simp

@[simp] theorem heatFalls_frame (v : Nat) (s : Station) :
    (heatFalls v s).nv = s.nv ∧ (heatFalls v s).start = s.start ∧ (heatFalls v s).sense = s.sense ∧
    (heatFalls v s).keg = s.keg ∧ (heatFalls v s).press = s.press ∧ (heatFalls v s).pools = s.pools ∧
    (heatFalls v s).link = s.link ∧ (heatFalls v s).pour = s.pour ∧ (heatFalls v s).exc = s.exc ∧
    (heatFalls v s).health = s.health ∧ (heatFalls v s).req = s.req ∧ (heatFalls v s).subMs = s.subMs := by
  simp only [heatFalls]
  (repeat' split) <;> simp

@[simp] theorem syncGasTimer_frame (s : Station) :
    (syncGasTimer s).nv = s.nv ∧ (syncGasTimer s).start = s.start ∧ (syncGasTimer s).sense = s.sense ∧
    (syncGasTimer s).keg = s.keg ∧ (syncGasTimer s).prog = s.prog ∧ (syncGasTimer s).pools = s.pools ∧
    (syncGasTimer s).link = s.link ∧ (syncGasTimer s).pour = s.pour ∧ (syncGasTimer s).exc = s.exc ∧
    (syncGasTimer s).health = s.health ∧ (syncGasTimer s).req = s.req ∧ (syncGasTimer s).subMs = s.subMs := by
  simp only [syncGasTimer]
  (repeat' split) <;> simp

@[simp] theorem syncGas_frame (s : Station) :
    (syncGas s).nv = s.nv ∧ (syncGas s).start = s.start ∧ (syncGas s).sense = s.sense ∧ (syncGas s).keg = s.keg ∧
    (syncGas s).prog = s.prog ∧ (syncGas s).pools = s.pools ∧ (syncGas s).link = s.link ∧ (syncGas s).pour = s.pour ∧
    (syncGas s).exc = s.exc ∧ (syncGas s).health = s.health ∧ (syncGas s).req = s.req ∧ (syncGas s).subMs = s.subMs := by
  simp only [syncGas]
  (repeat' split) <;> simp

@[simp] theorem handOn_frame (p : Pool) (a b : Nat) (s : Station) :
    (handOn p a b s).nv = s.nv ∧ (handOn p a b s).start = s.start ∧ (handOn p a b s).sense = s.sense ∧
    (handOn p a b s).keg = s.keg ∧ (handOn p a b s).pools = s.pools ∧ (handOn p a b s).link = s.link ∧
    (handOn p a b s).pour = s.pour ∧ (handOn p a b s).exc = s.exc ∧ (handOn p a b s).health = s.health ∧
    (handOn p a b s).req = s.req ∧ (handOn p a b s).subMs = s.subMs := by
  simp only [handOn]
  (repeat' split) <;> simp

@[simp] theorem setItem_frame (p : Pool) (it : PoolItem) (s : Station) :
    (s.setItem p it).nv = s.nv ∧ (s.setItem p it).start = s.start ∧ (s.setItem p it).sense = s.sense ∧
    (s.setItem p it).keg = s.keg ∧ (s.setItem p it).prog = s.prog ∧ (s.setItem p it).press = s.press ∧
    (s.setItem p it).link = s.link ∧ (s.setItem p it).pour = s.pour ∧ (s.setItem p it).exc = s.exc ∧
    (s.setItem p it).health = s.health ∧ (s.setItem p it).req = s.req ∧ (s.setItem p it).subMs = s.subMs := by
  simp only [Station.setItem]
  (repeat' split) <;> simp

@[simp] theorem applyGrant_frame (p : Pool) (g : Nat) (s : Station) :
    (applyGrant p g s).nv = s.nv ∧ (applyGrant p g s).start = s.start ∧ (applyGrant p g s).sense = s.sense ∧
    (applyGrant p g s).keg = s.keg ∧ (applyGrant p g s).link = s.link ∧ (applyGrant p g s).pour = s.pour ∧
    (applyGrant p g s).exc = s.exc ∧ (applyGrant p g s).health = s.health ∧ (applyGrant p g s).req = s.req ∧
    (applyGrant p g s).subMs = s.subMs := by
  simp only [applyGrant]
  (repeat' split) <;> simp

@[simp] theorem recompute_frame (p : Pool) (s : Station) :
    (recompute p s).nv = s.nv ∧ (recompute p s).start = s.start ∧ (recompute p s).sense = s.sense ∧
    (recompute p s).keg = s.keg ∧ (recompute p s).link = s.link ∧ (recompute p s).pour = s.pour ∧
    (recompute p s).exc = s.exc ∧ (recompute p s).health = s.health ∧ (recompute p s).req = s.req ∧
    (recompute p s).subMs = s.subMs := by
  simp only [recompute]
  (repeat' split) <;> simp

@[simp] theorem recomputeAll_frame (s : Station) :
    (recomputeAll s).nv = s.nv ∧ (recomputeAll s).start = s.start ∧ (recomputeAll s).sense = s.sense ∧
    (recomputeAll s).keg = s.keg ∧ (recomputeAll s).link = s.link ∧ (recomputeAll s).pour = s.pour ∧
    (recomputeAll s).exc = s.exc ∧ (recomputeAll s).health = s.health ∧ (recomputeAll s).req = s.req ∧
    (recomputeAll s).subMs = s.subMs := by
  simp only [recomputeAll]
  (repeat' split) <;> simp

@[simp] theorem refreshAll_frame (s : Station) :
    (refreshAll s).nv = s.nv ∧ (refreshAll s).start = s.start ∧ (refreshAll s).sense = s.sense ∧
    (refreshAll s).keg = s.keg ∧ (refreshAll s).link = s.link ∧ (refreshAll s).pour = s.pour ∧
    (refreshAll s).exc = s.exc ∧ (refreshAll s).health = s.health ∧ (refreshAll s).req = s.req ∧
    (refreshAll s).subMs = s.subMs := by
  simp only [refreshAll]
  (repeat' split) <;> simp

@[simp] theorem placeClaim_frame (s : Station) :
    (placeClaim s).nv = s.nv ∧ (placeClaim s).start = s.start ∧ (placeClaim s).sense = s.sense ∧
    (placeClaim s).keg = s.keg ∧ (placeClaim s).prog = s.prog ∧ (placeClaim s).press = s.press ∧
    (placeClaim s).pools = s.pools ∧ (placeClaim s).pour = s.pour ∧ (placeClaim s).exc = s.exc ∧
    (placeClaim s).health = s.health ∧ (placeClaim s).req = s.req ∧ (placeClaim s).subMs = s.subMs := by
  simp only [placeClaim]
  (repeat' split) <;> simp

@[simp] theorem placeRegular_frame (s : Station) :
    (placeRegular s).nv = s.nv ∧ (placeRegular s).start = s.start ∧ (placeRegular s).sense = s.sense ∧
    (placeRegular s).keg = s.keg ∧ (placeRegular s).prog = s.prog ∧ (placeRegular s).press = s.press ∧
    (placeRegular s).pools = s.pools ∧ (placeRegular s).pour = s.pour ∧ (placeRegular s).exc = s.exc ∧
    (placeRegular s).health = s.health ∧ (placeRegular s).req = s.req ∧ (placeRegular s).subMs = s.subMs := by
  simp only [placeRegular]
  (repeat' split) <;> simp

@[simp] theorem askExtra_frame (s : Station) :
    (askExtra s).nv = s.nv ∧ (askExtra s).start = s.start ∧ (askExtra s).sense = s.sense ∧ (askExtra s).keg = s.keg ∧
    (askExtra s).prog = s.prog ∧ (askExtra s).press = s.press ∧ (askExtra s).pools = s.pools ∧
    (askExtra s).pour = s.pour ∧ (askExtra s).exc = s.exc ∧ (askExtra s).health = s.health ∧
    (askExtra s).req = s.req ∧ (askExtra s).subMs = s.subMs := by
  simp only [askExtra]
  (repeat' split) <;> simp

@[simp] theorem claimsChanged_frame (s : Station) :
    (claimsChanged s).nv = s.nv ∧ (claimsChanged s).start = s.start ∧ (claimsChanged s).sense = s.sense ∧
    (claimsChanged s).keg = s.keg ∧ (claimsChanged s).prog = s.prog ∧ (claimsChanged s).press = s.press ∧
    (claimsChanged s).pools = s.pools ∧ (claimsChanged s).pour = s.pour ∧ (claimsChanged s).exc = s.exc ∧
    (claimsChanged s).health = s.health ∧ (claimsChanged s).req = s.req ∧ (claimsChanged s).subMs = s.subMs := by
  simp only [claimsChanged]
  (repeat' split) <;> simp

@[simp] theorem askWhereRaised_frame (f : Station → Station) (s : Station) :
    (askWhereRaised f s).nv = (f s).nv ∧ (askWhereRaised f s).start = (f s).start ∧
    (askWhereRaised f s).sense = (f s).sense ∧ (askWhereRaised f s).keg = (f s).keg ∧
    (askWhereRaised f s).prog = (f s).prog ∧ (askWhereRaised f s).press = (f s).press ∧
    (askWhereRaised f s).pools = (f s).pools ∧ (askWhereRaised f s).pour = (f s).pour ∧
    (askWhereRaised f s).exc = (f s).exc ∧ (askWhereRaised f s).health = (f s).health ∧
    (askWhereRaised f s).req = (f s).req ∧ (askWhereRaised f s).subMs = (f s).subMs := by
  simp only [askWhereRaised]
  (repeat' split) <;> simp

@[simp] theorem setOwn_frame (p : Pool) (c : Claim) (s : Station) :
    (setOwn p c s).nv = s.nv ∧ (setOwn p c s).start = s.start ∧ (setOwn p c s).sense = s.sense ∧
    (setOwn p c s).keg = s.keg ∧ (setOwn p c s).link = s.link ∧ (setOwn p c s).pour = s.pour ∧
    (setOwn p c s).exc = s.exc ∧ (setOwn p c s).health = s.health ∧ (setOwn p c s).req = s.req ∧
    (setOwn p c s).subMs = s.subMs := by
  simp only [setOwn]
  (repeat' split) <;> simp

@[simp] theorem postOne_frame (p : Pool) (c : Claim) (s : Station) :
    (postOne p c s).nv = s.nv ∧ (postOne p c s).start = s.start ∧ (postOne p c s).sense = s.sense ∧
    (postOne p c s).keg = s.keg ∧ (postOne p c s).link = s.link ∧ (postOne p c s).pour = s.pour ∧
    (postOne p c s).exc = s.exc ∧ (postOne p c s).health = s.health ∧ (postOne p c s).req = s.req ∧
    (postOne p c s).subMs = s.subMs := by
  simp only [postOne]
  (repeat' split) <;> simp

@[simp] theorem afterPosting_frame (b : PerPool Claim) (s : Station) :
    (afterPosting b s).nv = s.nv ∧ (afterPosting b s).start = s.start ∧ (afterPosting b s).sense = s.sense ∧
    (afterPosting b s).keg = s.keg ∧ (afterPosting b s).prog = s.prog ∧ (afterPosting b s).press = s.press ∧
    (afterPosting b s).pools = s.pools ∧ (afterPosting b s).pour = s.pour ∧ (afterPosting b s).exc = s.exc ∧
    (afterPosting b s).health = s.health ∧ (afterPosting b s).req = s.req ∧ (afterPosting b s).subMs = s.subMs := by
  simp only [afterPosting]
  (repeat' split) <;> simp

@[simp] theorem postProgram_frame (h c : Claim) (s : Station) :
    (postProgram h c s).nv = s.nv ∧ (postProgram h c s).start = s.start ∧ (postProgram h c s).sense = s.sense ∧
    (postProgram h c s).keg = s.keg ∧ (postProgram h c s).pour = s.pour ∧ (postProgram h c s).exc = s.exc ∧
    (postProgram h c s).health = s.health ∧ (postProgram h c s).req = s.req ∧ (postProgram h c s).subMs = s.subMs := by
  simp only [postProgram]
  (repeat' split) <;> simp

@[simp] theorem postGas_frame (c : Claim) (s : Station) :
    (postGas c s).nv = s.nv ∧ (postGas c s).start = s.start ∧ (postGas c s).sense = s.sense ∧
    (postGas c s).keg = s.keg ∧ (postGas c s).pour = s.pour ∧ (postGas c s).exc = s.exc ∧
    (postGas c s).health = s.health ∧ (postGas c s).req = s.req ∧ (postGas c s).subMs = s.subMs := by
  simp only [postGas]
  (repeat' split) <;> simp

@[simp] theorem postGasNow_frame (s : Station) :
    (postGasNow s).nv = s.nv ∧ (postGasNow s).start = s.start ∧ (postGasNow s).sense = s.sense ∧
    (postGasNow s).keg = s.keg ∧ (postGasNow s).pour = s.pour ∧ (postGasNow s).exc = s.exc ∧
    (postGasNow s).health = s.health ∧ (postGasNow s).req = s.req ∧ (postGasNow s).subMs = s.subMs := by
  simp only [postGasNow]
  (repeat' split) <;> simp

@[simp] theorem setVent_frame (v : Bool) (s : Station) :
    (setVent v s).nv = s.nv ∧ (setVent v s).start = s.start ∧ (setVent v s).sense = s.sense ∧
    (setVent v s).keg = s.keg ∧ (setVent v s).pour = s.pour ∧ (setVent v s).exc = s.exc ∧
    (setVent v s).health = s.health ∧ (setVent v s).req = s.req ∧ (setVent v s).subMs = s.subMs := by
  simp only [setVent]
  (repeat' split) <;> simp

@[simp] theorem decideNow_frame (v w r : Bool) (s : Station) :
    (decideNow v w r s).nv = s.nv ∧ (decideNow v w r s).start = s.start ∧ (decideNow v w r s).sense = s.sense ∧
    (decideNow v w r s).keg = s.keg ∧ (decideNow v w r s).pour = s.pour ∧ (decideNow v w r s).exc = s.exc ∧
    (decideNow v w r s).health = s.health ∧ (decideNow v w r s).req = s.req ∧ (decideNow v w r s).subMs = s.subMs := by
  simp only [decideNow]
  (repeat' split) <;> simp

@[simp] theorem decideAsIs_frame (s : Station) :
    (decideAsIs s).nv = s.nv ∧ (decideAsIs s).start = s.start ∧ (decideAsIs s).sense = s.sense ∧
    (decideAsIs s).keg = s.keg ∧ (decideAsIs s).pour = s.pour ∧ (decideAsIs s).exc = s.exc ∧
    (decideAsIs s).health = s.health ∧ (decideAsIs s).req = s.req ∧ (decideAsIs s).subMs = s.subMs := by
  simp only [decideAsIs]
  (repeat' split) <;> simp

@[simp] theorem gasDecided_frame (f : Station → Station) (s : Station) :
    (gasDecided f s).nv = (f s).nv ∧ (gasDecided f s).start = (f s).start ∧ (gasDecided f s).sense = (f s).sense ∧
    (gasDecided f s).keg = (f s).keg ∧ (gasDecided f s).pour = (f s).pour ∧ (gasDecided f s).exc = (f s).exc ∧
    (gasDecided f s).health = (f s).health ∧ (gasDecided f s).req = (f s).req ∧ (gasDecided f s).subMs = (f s).subMs := by
  simp only [gasDecided]
  (repeat' split) <;> simp

@[simp] theorem reown_frame (s : Station) :
    (reown s).nv = s.nv ∧ (reown s).start = s.start ∧ (reown s).sense = s.sense ∧ (reown s).keg = s.keg ∧
    (reown s).pour = s.pour ∧ (reown s).exc = s.exc ∧ (reown s).health = s.health ∧ (reown s).req = s.req ∧
    (reown s).subMs = s.subMs := by
  simp only [reown]
  (repeat' split) <;> simp

@[simp] theorem regrant_frame (s : Station) :
    (regrant s).nv = s.nv ∧ (regrant s).start = s.start ∧ (regrant s).sense = s.sense ∧ (regrant s).keg = s.keg ∧
    (regrant s).pour = s.pour ∧ (regrant s).exc = s.exc ∧ (regrant s).health = s.health ∧ (regrant s).req = s.req ∧
    (regrant s).subMs = s.subMs := by
  simp only [regrant]
  (repeat' split) <;> simp

@[simp] theorem refreshGrants_frame (s : Station) :
    (refreshGrants s).nv = s.nv ∧ (refreshGrants s).start = s.start ∧ (refreshGrants s).sense = s.sense ∧
    (refreshGrants s).keg = s.keg ∧ (refreshGrants s).pour = s.pour ∧ (refreshGrants s).exc = s.exc ∧
    (refreshGrants s).health = s.health ∧ (refreshGrants s).req = s.req ∧ (refreshGrants s).subMs = s.subMs := by
  simp only [refreshGrants]
  (repeat' split) <;> simp

@[simp] theorem settleOut_frame (p : Pool) (s : Station) :
    (settleOut p s).nv = s.nv ∧ (settleOut p s).start = s.start ∧ (settleOut p s).sense = s.sense ∧
    (settleOut p s).keg = s.keg ∧ (settleOut p s).pour = s.pour ∧ (settleOut p s).exc = s.exc ∧
    (settleOut p s).health = s.health ∧ (settleOut p s).req = s.req ∧ (settleOut p s).subMs = s.subMs := by
  simp only [settleOut]
  (repeat' split) <;> simp

@[simp] theorem silenceOut_frame (s : Station) :
    (silenceOut s).nv = s.nv ∧ (silenceOut s).start = s.start ∧ (silenceOut s).sense = s.sense ∧
    (silenceOut s).keg = s.keg ∧ (silenceOut s).pour = s.pour ∧ (silenceOut s).exc = s.exc ∧
    (silenceOut s).health = s.health ∧ (silenceOut s).req = s.req ∧ (silenceOut s).subMs = s.subMs := by
  simp only [silenceOut]
  (repeat' split) <;> simp

@[simp] theorem linkAlive_frame (s : Station) :
    (linkAlive s).nv = s.nv ∧ (linkAlive s).start = s.start ∧ (linkAlive s).sense = s.sense ∧
    (linkAlive s).keg = s.keg ∧ (linkAlive s).pour = s.pour ∧ (linkAlive s).exc = s.exc ∧
    (linkAlive s).health = s.health ∧ (linkAlive s).req = s.req ∧ (linkAlive s).subMs = s.subMs := by
  simp only [linkAlive]
  (repeat' split) <;> simp

@[simp] theorem overdrawOn_frame (s : Station) :
    (overdrawOn s).nv = s.nv ∧ (overdrawOn s).start = s.start ∧ (overdrawOn s).keg = s.keg ∧
    (overdrawOn s).link = s.link ∧ (overdrawOn s).pour = s.pour ∧ (overdrawOn s).exc = s.exc ∧
    (overdrawOn s).health = s.health ∧ (overdrawOn s).req = s.req ∧ (overdrawOn s).subMs = s.subMs := by
  simp only [overdrawOn]
  (repeat' split) <;> simp

@[simp] theorem overdrawOff_frame (s : Station) :
    (overdrawOff s).nv = s.nv ∧ (overdrawOff s).start = s.start ∧ (overdrawOff s).keg = s.keg ∧
    (overdrawOff s).prog = s.prog ∧ (overdrawOff s).press = s.press ∧ (overdrawOff s).link = s.link ∧
    (overdrawOff s).pour = s.pour ∧ (overdrawOff s).exc = s.exc ∧ (overdrawOff s).health = s.health ∧
    (overdrawOff s).req = s.req ∧ (overdrawOff s).subMs = s.subMs := by
  simp only [overdrawOff]
  (repeat' split) <;> simp

@[simp] theorem backoffOut_frame (s : Station) :
    (backoffOut s).nv = s.nv ∧ (backoffOut s).start = s.start ∧ (backoffOut s).sense = s.sense ∧
    (backoffOut s).keg = s.keg ∧ (backoffOut s).pour = s.pour ∧ (backoffOut s).exc = s.exc ∧
    (backoffOut s).health = s.health ∧ (backoffOut s).req = s.req ∧ (backoffOut s).subMs = s.subMs := by
  simp only [backoffOut]
  (repeat' split) <;> simp

@[simp] theorem gradeFlags_frame (a b : AttrState) (s : Station) :
    (gradeFlags a b s).nv = s.nv ∧ (gradeFlags a b s).start = s.start ∧ (gradeFlags a b s).sense = s.sense ∧
    (gradeFlags a b s).keg = s.keg ∧ (gradeFlags a b s).prog = s.prog ∧ (gradeFlags a b s).press = s.press ∧
    (gradeFlags a b s).pools = s.pools ∧ (gradeFlags a b s).pour = s.pour ∧ (gradeFlags a b s).exc = s.exc ∧
    (gradeFlags a b s).health = s.health ∧ (gradeFlags a b s).subMs = s.subMs := by
  simp only [gradeFlags]
  (repeat' split) <;> simp

@[simp] theorem measureLeak_frame (v : Nat) (s : Station) :
    (measureLeak v s).nv = s.nv ∧ (measureLeak v s).start = s.start ∧ (measureLeak v s).sense = s.sense ∧
    (measureLeak v s).keg = s.keg ∧ (measureLeak v s).prog = s.prog ∧ (measureLeak v s).press = s.press ∧
    (measureLeak v s).pools = s.pools ∧ (measureLeak v s).pour = s.pour ∧ (measureLeak v s).exc = s.exc ∧
    (measureLeak v s).subMs = s.subMs := by
  simp only [measureLeak]
  (repeat' split) <;> simp

@[simp] theorem measureChill_frame (v : Nat) (s : Station) :
    (measureChill v s).nv = s.nv ∧ (measureChill v s).start = s.start ∧ (measureChill v s).sense = s.sense ∧
    (measureChill v s).keg = s.keg ∧ (measureChill v s).prog = s.prog ∧ (measureChill v s).press = s.press ∧
    (measureChill v s).pools = s.pools ∧ (measureChill v s).pour = s.pour ∧ (measureChill v s).exc = s.exc ∧
    (measureChill v s).subMs = s.subMs := by
  simp only [measureChill]
  (repeat' split) <;> simp

@[simp] theorem measureGas_frame (v : Nat) (s : Station) :
    (measureGas v s).nv = s.nv ∧ (measureGas v s).start = s.start ∧ (measureGas v s).sense = s.sense ∧
    (measureGas v s).keg = s.keg ∧ (measureGas v s).prog = s.prog ∧ (measureGas v s).press = s.press ∧
    (measureGas v s).pools = s.pools ∧ (measureGas v s).pour = s.pour ∧ (measureGas v s).exc = s.exc ∧
    (measureGas v s).subMs = s.subMs := by
  simp only [measureGas]
  (repeat' split) <;> simp

@[simp] theorem measureLink_frame (v : Nat) (s : Station) :
    (measureLink v s).nv = s.nv ∧ (measureLink v s).start = s.start ∧ (measureLink v s).sense = s.sense ∧
    (measureLink v s).keg = s.keg ∧ (measureLink v s).prog = s.prog ∧ (measureLink v s).press = s.press ∧
    (measureLink v s).pools = s.pools ∧ (measureLink v s).pour = s.pour ∧ (measureLink v s).exc = s.exc ∧
    (measureLink v s).subMs = s.subMs := by
  simp only [measureLink]
  (repeat' split) <;> simp

@[simp] theorem startChill_frame (s : Station) :
    (startChill s).nv = s.nv ∧ (startChill s).start = s.start ∧ (startChill s).sense = s.sense ∧
    (startChill s).keg = s.keg ∧ (startChill s).prog = s.prog ∧ (startChill s).press = s.press ∧
    (startChill s).pools = s.pools ∧ (startChill s).link = s.link ∧ (startChill s).pour = s.pour ∧
    (startChill s).exc = s.exc ∧ (startChill s).req = s.req ∧ (startChill s).subMs = s.subMs := by
  simp only [startChill]
  (repeat' split) <;> simp

@[simp] theorem closeChill_frame (s : Station) :
    (closeChill s).nv = s.nv ∧ (closeChill s).start = s.start ∧ (closeChill s).sense = s.sense ∧
    (closeChill s).keg = s.keg ∧ (closeChill s).prog = s.prog ∧ (closeChill s).press = s.press ∧
    (closeChill s).pools = s.pools ∧ (closeChill s).pour = s.pour ∧ (closeChill s).exc = s.exc ∧
    (closeChill s).subMs = s.subMs := by
  simp only [closeChill]
  (repeat' split) <;> simp

@[simp] theorem clearGasCounts_frame (s : Station) :
    (clearGasCounts s).nv = s.nv ∧ (clearGasCounts s).start = s.start ∧ (clearGasCounts s).sense = s.sense ∧
    (clearGasCounts s).keg = s.keg ∧ (clearGasCounts s).prog = s.prog ∧ (clearGasCounts s).press = s.press ∧
    (clearGasCounts s).pools = s.pools ∧ (clearGasCounts s).link = s.link ∧ (clearGasCounts s).pour = s.pour ∧
    (clearGasCounts s).exc = s.exc ∧ (clearGasCounts s).req = s.req ∧ (clearGasCounts s).subMs = s.subMs := by
  simp only [clearGasCounts]
  (repeat' split) <;> simp

@[simp] theorem gasSecond_frame (s : Station) :
    (gasSecond s).nv = s.nv ∧ (gasSecond s).start = s.start ∧ (gasSecond s).sense = s.sense ∧
    (gasSecond s).keg = s.keg ∧ (gasSecond s).prog = s.prog ∧ (gasSecond s).press = s.press ∧
    (gasSecond s).pools = s.pools ∧ (gasSecond s).link = s.link ∧ (gasSecond s).pour = s.pour ∧
    (gasSecond s).exc = s.exc ∧ (gasSecond s).req = s.req ∧ (gasSecond s).subMs = s.subMs := by
  simp only [gasSecond]
  (repeat' split) <;> simp

@[simp] theorem pouredVolume_frame (d : Nat) (s : Station) :
    (pouredVolume d s).nv = s.nv ∧ (pouredVolume d s).start = s.start ∧ (pouredVolume d s).sense = s.sense ∧
    (pouredVolume d s).keg = s.keg ∧ (pouredVolume d s).prog = s.prog ∧ (pouredVolume d s).press = s.press ∧
    (pouredVolume d s).pools = s.pools ∧ (pouredVolume d s).pour = s.pour ∧ (pouredVolume d s).exc = s.exc ∧
    (pouredVolume d s).subMs = s.subMs := by
  simp only [pouredVolume]
  (repeat' split) <;> simp

@[simp] theorem windowFrame_frame (b : Bool) (s : Station) :
    (windowFrame b s).nv = s.nv ∧ (windowFrame b s).start = s.start ∧ (windowFrame b s).sense = s.sense ∧
    (windowFrame b s).keg = s.keg ∧ (windowFrame b s).prog = s.prog ∧ (windowFrame b s).press = s.press ∧
    (windowFrame b s).pools = s.pools ∧ (windowFrame b s).pour = s.pour ∧ (windowFrame b s).exc = s.exc ∧
    (windowFrame b s).subMs = s.subMs := by
  simp only [windowFrame]
  (repeat' split) <;> simp

@[simp] theorem postDemands_frame (s : Station) :
    (postDemands s).nv = s.nv ∧ (postDemands s).start = s.start ∧ (postDemands s).sense = s.sense ∧
    (postDemands s).keg = s.keg ∧ (postDemands s).pour = s.pour ∧ (postDemands s).exc = s.exc ∧
    (postDemands s).health = s.health ∧ (postDemands s).req = s.req ∧ (postDemands s).subMs = s.subMs := by
  simp only [postDemands]
  (repeat' split) <;> simp

@[simp] theorem progRecompute_frame (s : Station) :
    (progRecompute s).nv = s.nv ∧ (progRecompute s).start = s.start ∧ (progRecompute s).sense = s.sense ∧
    (progRecompute s).keg = s.keg ∧ (progRecompute s).pour = s.pour ∧ (progRecompute s).exc = s.exc ∧
    (progRecompute s).health = s.health ∧ (progRecompute s).req = s.req ∧ (progRecompute s).subMs = s.subMs := by
  simp only [progRecompute]
  (repeat' split) <;> simp

@[simp] theorem closeThermal_frame (s : Station) :
    (closeThermal s).nv = s.nv ∧ (closeThermal s).start = s.start ∧ (closeThermal s).sense = s.sense ∧
    (closeThermal s).keg = s.keg ∧ (closeThermal s).press = s.press ∧ (closeThermal s).pools = s.pools ∧
    (closeThermal s).link = s.link ∧ (closeThermal s).pour = s.pour ∧ (closeThermal s).exc = s.exc ∧
    (closeThermal s).health = s.health ∧ (closeThermal s).req = s.req ∧ (closeThermal s).subMs = s.subMs := by
  simp only [closeThermal]
  (repeat' split) <;> simp

@[simp] theorem starvedTest_frame (s : Station) :
    (starvedTest s).nv = s.nv ∧ (starvedTest s).start = s.start ∧ (starvedTest s).sense = s.sense ∧
    (starvedTest s).keg = s.keg ∧ (starvedTest s).prog = s.prog ∧ (starvedTest s).press = s.press ∧
    (starvedTest s).pools = s.pools ∧ (starvedTest s).pour = s.pour ∧ (starvedTest s).exc = s.exc ∧
    (starvedTest s).health = s.health ∧ (starvedTest s).subMs = s.subMs := by
  simp only [starvedTest]
  (repeat' split) <;> simp

@[simp] theorem cycleTimes_frame (s : Station) :
    (cycleTimes s).nv = s.nv ∧ (cycleTimes s).start = s.start ∧ (cycleTimes s).sense = s.sense ∧
    (cycleTimes s).keg = s.keg ∧ (cycleTimes s).press = s.press ∧ (cycleTimes s).pools = s.pools ∧
    (cycleTimes s).link = s.link ∧ (cycleTimes s).pour = s.pour ∧ (cycleTimes s).exc = s.exc ∧
    (cycleTimes s).health = s.health ∧ (cycleTimes s).req = s.req ∧ (cycleTimes s).subMs = s.subMs := by
  simp only [cycleTimes]
  (repeat' split) <;> simp

@[simp] theorem startCycle_frame (s : Station) :
    (startCycle s).nv = s.nv ∧ (startCycle s).start = s.start ∧ (startCycle s).sense = s.sense ∧
    (startCycle s).keg = s.keg ∧ (startCycle s).press = s.press ∧ (startCycle s).pools = s.pools ∧
    (startCycle s).pour = s.pour ∧ (startCycle s).exc = s.exc ∧ (startCycle s).health = s.health ∧
    (startCycle s).subMs = s.subMs := by
  simp only [startCycle]
  (repeat' split) <;> simp

@[simp] theorem glycolTimeEnd_frame (s : Station) :
    (glycolTimeEnd s).nv = s.nv ∧ (glycolTimeEnd s).start = s.start ∧ (glycolTimeEnd s).sense = s.sense ∧
    (glycolTimeEnd s).keg = s.keg ∧ (glycolTimeEnd s).press = s.press ∧ (glycolTimeEnd s).pools = s.pools ∧
    (glycolTimeEnd s).link = s.link ∧ (glycolTimeEnd s).pour = s.pour ∧ (glycolTimeEnd s).exc = s.exc ∧
    (glycolTimeEnd s).req = s.req ∧ (glycolTimeEnd s).subMs = s.subMs := by
  simp only [glycolTimeEnd]
  (repeat' split) <;> simp

@[simp] theorem heaterTimeEnd_frame (s : Station) :
    (heaterTimeEnd s).nv = s.nv ∧ (heaterTimeEnd s).start = s.start ∧ (heaterTimeEnd s).sense = s.sense ∧
    (heaterTimeEnd s).keg = s.keg ∧ (heaterTimeEnd s).press = s.press ∧ (heaterTimeEnd s).pools = s.pools ∧
    (heaterTimeEnd s).link = s.link ∧ (heaterTimeEnd s).pour = s.pour ∧ (heaterTimeEnd s).exc = s.exc ∧
    (heaterTimeEnd s).req = s.req ∧ (heaterTimeEnd s).subMs = s.subMs := by
  simp only [heaterTimeEnd]
  (repeat' split) <;> simp

@[simp] theorem chillRdyOn_frame (s : Station) :
    (chillRdyOn s).nv = s.nv ∧ (chillRdyOn s).start = s.start ∧ (chillRdyOn s).keg = s.keg ∧
    (chillRdyOn s).press = s.press ∧ (chillRdyOn s).pools = s.pools ∧ (chillRdyOn s).link = s.link ∧
    (chillRdyOn s).pour = s.pour ∧ (chillRdyOn s).exc = s.exc ∧ (chillRdyOn s).health = s.health ∧
    (chillRdyOn s).req = s.req ∧ (chillRdyOn s).subMs = s.subMs := by
  simp only [chillRdyOn]
  (repeat' split) <;> simp

@[simp] theorem chillRdyOff_frame (s : Station) :
    (chillRdyOff s).nv = s.nv ∧ (chillRdyOff s).start = s.start ∧ (chillRdyOff s).keg = s.keg ∧
    (chillRdyOff s).press = s.press ∧ (chillRdyOff s).pools = s.pools ∧ (chillRdyOff s).link = s.link ∧
    (chillRdyOff s).pour = s.pour ∧ (chillRdyOff s).exc = s.exc ∧ (chillRdyOff s).health = s.health ∧
    (chillRdyOff s).req = s.req ∧ (chillRdyOff s).subMs = s.subMs := by
  simp only [chillRdyOff]
  (repeat' split) <;> simp

@[simp] theorem starvation_frame (s : Station) :
    (starvation s).nv = s.nv ∧ (starvation s).start = s.start ∧ (starvation s).sense = s.sense ∧
    (starvation s).keg = s.keg ∧ (starvation s).press = s.press ∧ (starvation s).pools = s.pools ∧
    (starvation s).pour = s.pour ∧ (starvation s).exc = s.exc ∧ (starvation s).health = s.health ∧
    (starvation s).subMs = s.subMs := by
  simp only [starvation]
  (repeat' split) <;> simp

@[simp] theorem driveHeard_frame (c h : Nat) (s : Station) :
    (driveHeard c h s).nv = s.nv ∧ (driveHeard c h s).start = s.start ∧ (driveHeard c h s).sense = s.sense ∧
    (driveHeard c h s).keg = s.keg ∧ (driveHeard c h s).press = s.press ∧ (driveHeard c h s).pools = s.pools ∧
    (driveHeard c h s).link = s.link ∧ (driveHeard c h s).pour = s.pour ∧ (driveHeard c h s).exc = s.exc ∧
    (driveHeard c h s).health = s.health ∧ (driveHeard c h s).req = s.req ∧ (driveHeard c h s).subMs = s.subMs := by
  simp only [driveHeard]
  (repeat' split) <;> simp

@[simp] theorem dropDrive_frame (s : Station) :
    (dropDrive s).nv = s.nv ∧ (dropDrive s).start = s.start ∧ (dropDrive s).sense = s.sense ∧
    (dropDrive s).keg = s.keg ∧ (dropDrive s).press = s.press ∧ (dropDrive s).pools = s.pools ∧
    (dropDrive s).link = s.link ∧ (dropDrive s).pour = s.pour ∧ (dropDrive s).exc = s.exc ∧
    (dropDrive s).health = s.health ∧ (dropDrive s).req = s.req ∧ (dropDrive s).subMs = s.subMs := by
  simp only [dropDrive]
  (repeat' split) <;> simp

@[simp] theorem computeTarget_frame (s : Station) :
    (computeTarget s).nv = s.nv ∧ (computeTarget s).start = s.start ∧ (computeTarget s).sense = s.sense ∧
    (computeTarget s).keg = s.keg ∧ (computeTarget s).prog = s.prog ∧ (computeTarget s).pools = s.pools ∧
    (computeTarget s).pour = s.pour ∧ (computeTarget s).exc = s.exc ∧ (computeTarget s).health = s.health ∧
    (computeTarget s).subMs = s.subMs := by
  simp only [computeTarget]
  (repeat' split) <;> simp

@[simp] theorem redecide_frame (s : Station) :
    (redecide s).nv = s.nv ∧ (redecide s).start = s.start ∧ (redecide s).sense = s.sense ∧ (redecide s).keg = s.keg ∧
    (redecide s).pour = s.pour ∧ (redecide s).exc = s.exc ∧ (redecide s).health = s.health ∧
    (redecide s).subMs = s.subMs := by
  simp only [redecide]
  (repeat' split) <;> simp

@[simp] theorem toldPriming_frame (s : Station) :
    (toldPriming s).nv = s.nv ∧ (toldPriming s).start = s.start ∧ (toldPriming s).sense = s.sense ∧
    (toldPriming s).keg = s.keg ∧ (toldPriming s).pour = s.pour ∧ (toldPriming s).exc = s.exc ∧
    (toldPriming s).health = s.health ∧ (toldPriming s).req = s.req ∧ (toldPriming s).subMs = s.subMs := by
  simp only [toldPriming]
  (repeat' split) <;> simp

@[simp] theorem enterActive_frame (s : Station) :
    (enterActive s).nv = s.nv ∧ (enterActive s).start = s.start ∧ (enterActive s).sense = s.sense ∧
    (enterActive s).keg = s.keg ∧ (enterActive s).pour = s.pour ∧ (enterActive s).exc = s.exc ∧
    (enterActive s).health = s.health ∧ (enterActive s).req = s.req ∧ (enterActive s).subMs = s.subMs := by
  simp only [enterActive]
  (repeat' split) <;> simp

@[simp] theorem toldActive_frame (s : Station) :
    (toldActive s).nv = s.nv ∧ (toldActive s).start = s.start ∧ (toldActive s).sense = s.sense ∧
    (toldActive s).keg = s.keg ∧ (toldActive s).pour = s.pour ∧ (toldActive s).exc = s.exc ∧
    (toldActive s).health = s.health ∧ (toldActive s).req = s.req ∧ (toldActive s).subMs = s.subMs := by
  simp only [toldActive]
  (repeat' split) <;> simp

@[simp] theorem toldPause_frame (s : Station) :
    (toldPause s).nv = s.nv ∧ (toldPause s).start = s.start ∧ (toldPause s).sense = s.sense ∧
    (toldPause s).keg = s.keg ∧ (toldPause s).pour = s.pour ∧ (toldPause s).exc = s.exc ∧
    (toldPause s).health = s.health ∧ (toldPause s).req = s.req ∧ (toldPause s).subMs = s.subMs := by
  simp only [toldPause]
  (repeat' split) <;> simp

@[simp] theorem toldPrimed_frame (s : Station) :
    (toldPrimed s).nv = s.nv ∧ (toldPrimed s).start = s.start ∧ (toldPrimed s).sense = s.sense ∧
    (toldPrimed s).keg = s.keg ∧ (toldPrimed s).pour = s.pour ∧ (toldPrimed s).exc = s.exc ∧
    (toldPrimed s).health = s.health ∧ (toldPrimed s).req = s.req ∧ (toldPrimed s).subMs = s.subMs := by
  simp only [toldPrimed]
  (repeat' split) <;> simp

@[simp] theorem imposeHold_frame (s : Station) :
    (imposeHold s).nv = s.nv ∧ (imposeHold s).start = s.start ∧ (imposeHold s).sense = s.sense ∧
    (imposeHold s).keg = s.keg ∧ (imposeHold s).pour = s.pour ∧ (imposeHold s).exc = s.exc ∧
    (imposeHold s).health = s.health ∧ (imposeHold s).req = s.req ∧ (imposeHold s).subMs = s.subMs := by
  simp only [imposeHold]
  (repeat' split) <;> simp

@[simp] theorem imposeLockout_frame (s : Station) :
    (imposeLockout s).nv = s.nv ∧ (imposeLockout s).start = s.start ∧ (imposeLockout s).sense = s.sense ∧
    (imposeLockout s).keg = s.keg ∧ (imposeLockout s).pour = s.pour ∧ (imposeLockout s).exc = s.exc ∧
    (imposeLockout s).health = s.health ∧ (imposeLockout s).req = s.req ∧ (imposeLockout s).subMs = s.subMs := by
  simp only [imposeLockout]
  (repeat' split) <;> simp

@[simp] theorem liftHold_frame (s : Station) :
    (liftHold s).nv = s.nv ∧ (liftHold s).start = s.start ∧ (liftHold s).sense = s.sense ∧ (liftHold s).keg = s.keg ∧
    (liftHold s).pour = s.pour ∧ (liftHold s).exc = s.exc ∧ (liftHold s).health = s.health ∧
    (liftHold s).req = s.req ∧ (liftHold s).subMs = s.subMs := by
  simp only [liftHold]
  (repeat' split) <;> simp

@[simp] theorem liftLockout_frame (s : Station) :
    (liftLockout s).nv = s.nv ∧ (liftLockout s).start = s.start ∧ (liftLockout s).sense = s.sense ∧
    (liftLockout s).keg = s.keg ∧ (liftLockout s).pour = s.pour ∧ (liftLockout s).exc = s.exc ∧
    (liftLockout s).health = s.health ∧ (liftLockout s).req = s.req ∧ (liftLockout s).subMs = s.subMs := by
  simp only [liftLockout]
  (repeat' split) <;> simp

@[simp] theorem testStarted_frame (s : Station) :
    (testStarted s).nv = s.nv ∧ (testStarted s).start = s.start ∧ (testStarted s).sense = s.sense ∧
    (testStarted s).keg = s.keg ∧ (testStarted s).pour = s.pour ∧ (testStarted s).exc = s.exc ∧
    (testStarted s).health = s.health ∧ (testStarted s).req = s.req ∧ (testStarted s).subMs = s.subMs := by
  simp only [testStarted]
  (repeat' split) <;> simp

@[simp] theorem testEnded_frame (s : Station) :
    (testEnded s).nv = s.nv ∧ (testEnded s).start = s.start ∧ (testEnded s).sense = s.sense ∧
    (testEnded s).keg = s.keg ∧ (testEnded s).pour = s.pour ∧ (testEnded s).exc = s.exc ∧
    (testEnded s).health = s.health ∧ (testEnded s).req = s.req ∧ (testEnded s).subMs = s.subMs := by
  simp only [testEnded]
  (repeat' split) <;> simp

@[simp] theorem toldEnd_frame (b : Bool) (s : Station) :
    (toldEnd b s).nv = s.nv ∧ (toldEnd b s).start = s.start ∧ (toldEnd b s).sense = s.sense ∧
    (toldEnd b s).keg = s.keg ∧ (toldEnd b s).pour = s.pour ∧ (toldEnd b s).exc = s.exc ∧
    (toldEnd b s).health = s.health ∧ (toldEnd b s).req = s.req ∧ (toldEnd b s).subMs = s.subMs := by
  simp only [toldEnd]
  (repeat' split) <;> simp

@[simp] theorem writeDesc_frame (d : TestDesc) (s : Station) :
    (writeDesc d s).nv = s.nv ∧ (writeDesc d s).start = s.start ∧ (writeDesc d s).sense = s.sense ∧
    (writeDesc d s).keg = s.keg ∧ (writeDesc d s).prog = s.prog ∧ (writeDesc d s).press = s.press ∧
    (writeDesc d s).pools = s.pools ∧ (writeDesc d s).link = s.link ∧ (writeDesc d s).pour = s.pour ∧
    (writeDesc d s).exc = s.exc ∧ (writeDesc d s).req = s.req ∧ (writeDesc d s).subMs = s.subMs := by
  simp only [writeDesc]
  (repeat' split) <;> simp

@[simp] theorem startTest_frame (m : Nat) (s : Station) :
    (startTest m s).nv = s.nv ∧ (startTest m s).start = s.start ∧ (startTest m s).sense = s.sense ∧
    (startTest m s).keg = s.keg ∧ (startTest m s).pour = s.pour ∧ (startTest m s).exc = s.exc ∧
    (startTest m s).req = s.req ∧ (startTest m s).subMs = s.subMs := by
  simp only [startTest]
  (repeat' split) <;> simp

@[simp] theorem endTestEarly_frame (o : TestOutcome) (s : Station) :
    (endTestEarly o s).nv = s.nv ∧ (endTestEarly o s).start = s.start ∧ (endTestEarly o s).sense = s.sense ∧
    (endTestEarly o s).keg = s.keg ∧ (endTestEarly o s).pour = s.pour ∧ (endTestEarly o s).exc = s.exc ∧
    (endTestEarly o s).subMs = s.subMs := by
  simp only [endTestEarly]
  (repeat' split) <;> simp

@[simp] theorem finishTest_frame (t : LeakTest) (s : Station) :
    (finishTest t s).nv = s.nv ∧ (finishTest t s).start = s.start ∧ (finishTest t s).sense = s.sense ∧
    (finishTest t s).keg = s.keg ∧ (finishTest t s).pour = s.pour ∧ (finishTest t s).exc = s.exc ∧
    (finishTest t s).subMs = s.subMs := by
  simp only [finishTest]
  (repeat' split) <;> simp

@[simp] theorem setTap_frame (v : Bool) (s : Station) :
    (setTap v s).nv = s.nv ∧ (setTap v s).start = s.start ∧ (setTap v s).sense = s.sense ∧ (setTap v s).keg = s.keg ∧
    (setTap v s).prog = s.prog ∧ (setTap v s).pools = s.pools ∧ (setTap v s).link = s.link ∧
    (setTap v s).exc = s.exc ∧ (setTap v s).health = s.health ∧ (setTap v s).req = s.req ∧
    (setTap v s).subMs = s.subMs := by
  simp only [setTap]
  (repeat' split) <;> simp

@[simp] theorem beginPour_frame (t : Nat) (k : OrderKind) (r : Nat) (l : Option Nat) (m : Nat) (s : Station) :
    (beginPour t k r l m s).nv = s.nv ∧ (beginPour t k r l m s).start = s.start ∧
    (beginPour t k r l m s).sense = s.sense ∧ (beginPour t k r l m s).keg = s.keg ∧
    (beginPour t k r l m s).exc = s.exc ∧ (beginPour t k r l m s).subMs = s.subMs := by
  simp only [beginPour]
  (repeat' split) <;> simp

@[simp] theorem startOrder_frame (o : Order) (s : Station) :
    (startOrder o s).nv = s.nv ∧ (startOrder o s).start = s.start ∧ (startOrder o s).sense = s.sense ∧
    (startOrder o s).keg = s.keg ∧ (startOrder o s).exc = s.exc ∧ (startOrder o s).subMs = s.subMs := by
  simp only [startOrder]
  (repeat' split) <;> simp

@[simp] theorem startManual_frame (s : Station) :
    (startManual s).nv = s.nv ∧ (startManual s).start = s.start ∧ (startManual s).sense = s.sense ∧
    (startManual s).keg = s.keg ∧ (startManual s).exc = s.exc ∧ (startManual s).subMs = s.subMs := by
  simp only [startManual]
  (repeat' split) <;> simp

@[simp] theorem testHead_frame (s : Station) :
    (testHead s).nv = s.nv ∧ (testHead s).start = s.start ∧ (testHead s).sense = s.sense ∧ (testHead s).keg = s.keg ∧
    (testHead s).exc = s.exc ∧ (testHead s).subMs = s.subMs := by
  simp only [testHead]
  (repeat' split) <;> simp

@[simp] theorem placePourReport_frame (r : PourReport) (s : Station) :
    (placePourReport r s).nv = s.nv ∧ (placePourReport r s).start = s.start ∧ (placePourReport r s).sense = s.sense ∧
    (placePourReport r s).keg = s.keg ∧ (placePourReport r s).prog = s.prog ∧ (placePourReport r s).press = s.press ∧
    (placePourReport r s).pools = s.pools ∧ (placePourReport r s).exc = s.exc ∧
    (placePourReport r s).health = s.health ∧ (placePourReport r s).req = s.req ∧
    (placePourReport r s).subMs = s.subMs := by
  simp only [placePourReport]
  (repeat' split) <;> simp

@[simp] theorem completeUnstarted_frame (x : PourOutcome) (o : Order) (s : Station) :
    (completeUnstarted x o s).nv = s.nv ∧ (completeUnstarted x o s).start = s.start ∧
    (completeUnstarted x o s).sense = s.sense ∧ (completeUnstarted x o s).exc = s.exc ∧
    (completeUnstarted x o s).subMs = s.subMs := by
  simp only [completeUnstarted]
  (repeat' split) <;> simp

@[simp] theorem endQueued_frame (x : PourOutcome) (s : Station) :
    (endQueued x s).nv = s.nv ∧ (endQueued x s).start = s.start ∧ (endQueued x s).sense = s.sense ∧
    (endQueued x s).exc = s.exc ∧ (endQueued x s).subMs = s.subMs := by
  have h : ∀ (l : List Order) (s : Station),
      (l.foldl (fun s o => completeUnstarted x o s) s).nv = s.nv ∧
      (l.foldl (fun s o => completeUnstarted x o s) s).start = s.start ∧
      (l.foldl (fun s o => completeUnstarted x o s) s).sense = s.sense ∧
      (l.foldl (fun s o => completeUnstarted x o s) s).exc = s.exc ∧
      (l.foldl (fun s o => completeUnstarted x o s) s).subMs = s.subMs := by
    intro l
    induction l with
    | nil => intro s; simp
    | cons o l ih => intro s; simp [ih]
  simp [endQueued, h]

@[simp] theorem declareEmpty_frame (s : Station) :
    (declareEmpty s).nv = s.nv ∧ (declareEmpty s).start = s.start ∧ (declareEmpty s).sense = s.sense ∧
    (declareEmpty s).exc = s.exc ∧ (declareEmpty s).subMs = s.subMs := by
  simp only [declareEmpty]
  (repeat' split) <;> simp

@[simp] theorem foamRunAfter_frame (d : DrainPour) (s : Station) :
    (foamRunAfter d s).nv = s.nv ∧ (foamRunAfter d s).start = s.start ∧ (foamRunAfter d s).sense = s.sense ∧
    (foamRunAfter d s).exc = s.exc ∧ (foamRunAfter d s).subMs = s.subMs := by
  simp only [foamRunAfter]
  (repeat' split) <;> simp

@[simp] theorem completePour_frame (b : Bool) (d : DrainPour) (s : Station) :
    (completePour b d s).nv = s.nv ∧ (completePour b d s).start = s.start ∧ (completePour b d s).sense = s.sense ∧
    (completePour b d s).exc = s.exc ∧ (completePour b d s).subMs = s.subMs := by
  simp only [completePour]
  (repeat' split) <;> simp

@[simp] theorem closePour_frame (x : PourOutcome) (s : Station) :
    (closePour x s).nv = s.nv ∧ (closePour x s).start = s.start ∧ (closePour x s).sense = s.sense ∧
    (closePour x s).exc = s.exc ∧ (closePour x s).subMs = s.subMs := by
  simp only [closePour]
  (repeat' split) <;> simp

@[simp] theorem meterClose_frame (s : Station) :
    (meterClose s).nv = s.nv ∧ (meterClose s).start = s.start ∧ (meterClose s).sense = s.sense ∧
    (meterClose s).exc = s.exc ∧ (meterClose s).subMs = s.subMs := by
  simp only [meterClose]
  (repeat' split) <;> simp

@[simp] theorem closeIn_frame (st : Stage) (x : PourOutcome) (s : Station) :
    (closeIn st x s).nv = s.nv ∧ (closeIn st x s).start = s.start ∧ (closeIn st x s).sense = s.sense ∧
    (closeIn st x s).exc = s.exc ∧ (closeIn st x s).subMs = s.subMs := by
  simp only [closeIn]
  (repeat' split) <;> simp

@[simp] theorem primed_frame (s : Station) :
    (primed s).nv = s.nv ∧ (primed s).start = s.start ∧ (primed s).sense = s.sense ∧ (primed s).exc = s.exc ∧
    (primed s).subMs = s.subMs := by
  simp only [primed]
  (repeat' split) <;> simp

@[simp] theorem pourPressure_frame (s : Station) :
    (pourPressure s).nv = s.nv ∧ (pourPressure s).start = s.start ∧ (pourPressure s).sense = s.sense ∧
    (pourPressure s).exc = s.exc ∧ (pourPressure s).subMs = s.subMs := by
  simp only [pourPressure]
  (repeat' split) <;> simp

@[simp] theorem countPulse_frame (s : Station) :
    (countPulse s).nv = s.nv ∧ (countPulse s).start = s.start ∧ (countPulse s).keg = s.keg ∧
    (countPulse s).prog = s.prog ∧ (countPulse s).press = s.press ∧ (countPulse s).pools = s.pools ∧
    (countPulse s).link = s.link ∧ (countPulse s).pour = s.pour ∧ (countPulse s).exc = s.exc ∧
    (countPulse s).health = s.health ∧ (countPulse s).req = s.req ∧ (countPulse s).subMs = s.subMs := by
  simp only [countPulse]
  (repeat' split) <;> simp

@[simp] theorem remeter_frame (s : Station) :
    (remeter s).nv = s.nv ∧ (remeter s).start = s.start ∧ (remeter s).sense = s.sense ∧ (remeter s).keg = s.keg ∧
    (remeter s).prog = s.prog ∧ (remeter s).press = s.press ∧ (remeter s).pools = s.pools ∧
    (remeter s).link = s.link ∧ (remeter s).exc = s.exc ∧ (remeter s).health = s.health ∧ (remeter s).req = s.req ∧
    (remeter s).subMs = s.subMs := by
  simp only [remeter]
  (repeat' split) <;> simp

@[simp] theorem flowPulse_frame (w : Nat) (b : Bool) (s : Station) :
    (flowPulse w b s).nv = s.nv ∧ (flowPulse w b s).start = s.start ∧ (flowPulse w b s).exc = s.exc ∧
    (flowPulse w b s).subMs = s.subMs := by
  simp only [flowPulse]
  (repeat' split) <;> simp

@[simp] theorem foamStep_frame (s : Station) :
    (foamStep s).nv = s.nv ∧ (foamStep s).start = s.start ∧ (foamStep s).sense = s.sense ∧ (foamStep s).keg = s.keg ∧
    (foamStep s).prog = s.prog ∧ (foamStep s).press = s.press ∧ (foamStep s).pools = s.pools ∧
    (foamStep s).link = s.link ∧ (foamStep s).exc = s.exc ∧ (foamStep s).health = s.health ∧
    (foamStep s).req = s.req ∧ (foamStep s).subMs = s.subMs := by
  simp only [foamStep]
  (repeat' split) <;> simp

@[simp] theorem rateBin_frame (s : Station) :
    (rateBin s).nv = s.nv ∧ (rateBin s).start = s.start ∧ (rateBin s).keg = s.keg ∧ (rateBin s).prog = s.prog ∧
    (rateBin s).press = s.press ∧ (rateBin s).pools = s.pools ∧ (rateBin s).link = s.link ∧ (rateBin s).exc = s.exc ∧
    (rateBin s).health = s.health ∧ (rateBin s).req = s.req ∧ (rateBin s).subMs = s.subMs := by
  simp only [rateBin]
  (repeat' split) <;> simp

@[simp] theorem foamOut_frame (s : Station) :
    (foamOut s).nv = s.nv ∧ (foamOut s).start = s.start ∧ (foamOut s).sense = s.sense ∧ (foamOut s).exc = s.exc ∧
    (foamOut s).subMs = s.subMs := by
  simp only [foamOut]
  (repeat' split) <;> simp

@[simp] theorem limitOut_frame (s : Station) :
    (limitOut s).nv = s.nv ∧ (limitOut s).start = s.start ∧ (limitOut s).sense = s.sense ∧ (limitOut s).exc = s.exc ∧
    (limitOut s).subMs = s.subMs := by
  simp only [limitOut]
  (repeat' split) <;> simp

@[simp] theorem drainOut_frame (s : Station) :
    (drainOut s).nv = s.nv ∧ (drainOut s).start = s.start ∧ (drainOut s).sense = s.sense ∧ (drainOut s).exc = s.exc ∧
    (drainOut s).subMs = s.subMs := by
  simp only [drainOut]
  (repeat' split) <;> simp

@[simp] theorem takePress_frame (s : Station) :
    (takePress s).nv = s.nv ∧ (takePress s).start = s.start ∧ (takePress s).sense = s.sense ∧
    (takePress s).exc = s.exc ∧ (takePress s).subMs = s.subMs := by
  simp only [takePress]
  (repeat' split) <;> simp

@[simp] theorem handlePress_frame (s : Station) :
    (handlePress s).nv = s.nv ∧ (handlePress s).start = s.start ∧ (handlePress s).exc = s.exc ∧
    (handlePress s).subMs = s.subMs := by
  simp only [handlePress]
  (repeat' split) <;> simp

@[simp] theorem handleRelease_frame (s : Station) :
    (handleRelease s).nv = s.nv ∧ (handleRelease s).start = s.start ∧ (handleRelease s).exc = s.exc ∧
    (handleRelease s).subMs = s.subMs := by
  simp only [handleRelease]
  (repeat' split) <;> simp

@[simp] theorem openEntry_frame (k : FaultKind) (b : Bool) (s : Station) :
    (openEntry k b s).nv = s.nv ∧ (openEntry k b s).start = s.start ∧ (openEntry k b s).sense = s.sense ∧
    (openEntry k b s).keg = s.keg ∧ (openEntry k b s).prog = s.prog ∧ (openEntry k b s).press = s.press ∧
    (openEntry k b s).pools = s.pools ∧ (openEntry k b s).link = s.link ∧ (openEntry k b s).pour = s.pour ∧
    (openEntry k b s).health = s.health ∧ (openEntry k b s).req = s.req ∧ (openEntry k b s).subMs = s.subMs := by
  simp only [openEntry]
  (repeat' split) <;> simp

@[simp] theorem closeEntry_frame (s : Station) :
    (closeEntry s).nv = s.nv ∧ (closeEntry s).start = s.start ∧ (closeEntry s).sense = s.sense ∧
    (closeEntry s).keg = s.keg ∧ (closeEntry s).prog = s.prog ∧ (closeEntry s).press = s.press ∧
    (closeEntry s).pools = s.pools ∧ (closeEntry s).link = s.link ∧ (closeEntry s).pour = s.pour ∧
    (closeEntry s).health = s.health ∧ (closeEntry s).req = s.req ∧ (closeEntry s).subMs = s.subMs := by
  simp only [closeEntry]
  (repeat' split) <;> simp

@[simp] theorem placeExcursion_frame (s : Station) :
    (placeExcursion s).nv = s.nv ∧ (placeExcursion s).start = s.start ∧ (placeExcursion s).sense = s.sense ∧
    (placeExcursion s).keg = s.keg ∧ (placeExcursion s).prog = s.prog ∧ (placeExcursion s).press = s.press ∧
    (placeExcursion s).pools = s.pools ∧ (placeExcursion s).pour = s.pour ∧ (placeExcursion s).exc = s.exc ∧
    (placeExcursion s).health = s.health ∧ (placeExcursion s).req = s.req ∧ (placeExcursion s).subMs = s.subMs := by
  simp only [placeExcursion]
  (repeat' split) <;> simp

@[simp] theorem writeRun_frame (r : Bool) (s : Station) :
    (writeRun r s).nv = s.nv ∧ (writeRun r s).start = s.start ∧ (writeRun r s).sense = s.sense ∧
    (writeRun r s).prog = s.prog ∧ (writeRun r s).press = s.press ∧ (writeRun r s).pools = s.pools ∧
    (writeRun r s).link = s.link ∧ (writeRun r s).pour = s.pour ∧ (writeRun r s).exc = s.exc ∧
    (writeRun r s).health = s.health ∧ (writeRun r s).req = s.req ∧ (writeRun r s).subMs = s.subMs := by
  simp only [writeRun]
  (repeat' split) <;> simp

@[simp] theorem overpressurePour_frame (s : Station) :
    (overpressurePour s).nv = s.nv ∧ (overpressurePour s).start = s.start ∧ (overpressurePour s).sense = s.sense ∧
    (overpressurePour s).exc = s.exc ∧ (overpressurePour s).subMs = s.subMs := by
  simp only [overpressurePour]
  (repeat' split) <;> simp

@[simp] theorem firstFault_frame (k : FaultKind) (s : Station) :
    (firstFault k s).nv = s.nv ∧ (firstFault k s).start = s.start ∧ (firstFault k s).sense = s.sense ∧
    (firstFault k s).subMs = s.subMs := by
  simp only [firstFault]
  (repeat' split) <;> simp

@[simp] theorem refreshHold_frame (s : Station) :
    (refreshHold s).nv = s.nv ∧ (refreshHold s).start = s.start ∧ (refreshHold s).sense = s.sense ∧
    (refreshHold s).subMs = s.subMs := by
  simp only [refreshHold]
  (repeat' split) <;> simp

@[simp] theorem lockoutEntry_frame (k : FaultKind) (s : Station) :
    (lockoutEntry k s).start = s.start ∧ (lockoutEntry k s).sense = s.sense ∧ (lockoutEntry k s).subMs = s.subMs := by
  simp only [lockoutEntry]
  (repeat' split) <;> simp

@[simp] theorem takeFault_frame (k : FaultKind) (s : Station) :
    (takeFault k s).start = s.start ∧ (takeFault k s).sense = s.sense ∧ (takeFault k s).subMs = s.subMs := by
  simp only [takeFault]
  (repeat' split) <;> simp

@[simp] theorem takeConflict_frame (s : Station) :
    (takeConflict s).start = s.start ∧ (takeConflict s).sense = s.sense ∧ (takeConflict s).subMs = s.subMs := by
  simp only [takeConflict]
  (repeat' split) <;> simp

@[simp] theorem resumeStation_frame (s : Station) :
    (resumeStation s).nv = s.nv ∧ (resumeStation s).start = s.start ∧ (resumeStation s).sense = s.sense ∧
    (resumeStation s).subMs = s.subMs := by
  simp only [resumeStation]
  (repeat' split) <;> simp

@[simp] theorem setStanding_frame (k : FaultKind) (v : Bool) (s : Station) :
    (setStanding k v s).nv = s.nv ∧ (setStanding k v s).start = s.start ∧ (setStanding k v s).sense = s.sense ∧
    (setStanding k v s).keg = s.keg ∧ (setStanding k v s).prog = s.prog ∧ (setStanding k v s).press = s.press ∧
    (setStanding k v s).pools = s.pools ∧ (setStanding k v s).link = s.link ∧ (setStanding k v s).pour = s.pour ∧
    (setStanding k v s).health = s.health ∧ (setStanding k v s).req = s.req ∧ (setStanding k v s).subMs = s.subMs := by
  simp only [setStanding]
  (repeat' split) <;> simp

@[simp] theorem assertCond_frame (k : FaultKind) (s : Station) :
    (assertCond k s).start = s.start ∧ (assertCond k s).sense = s.sense ∧ (assertCond k s).subMs = s.subMs := by
  simp only [assertCond]
  (repeat' split) <;> simp

@[simp] theorem withdrawCond_frame (k : FaultKind) (s : Station) :
    (withdrawCond k s).nv = s.nv ∧ (withdrawCond k s).start = s.start ∧ (withdrawCond k s).sense = s.sense ∧
    (withdrawCond k s).subMs = s.subMs := by
  simp only [withdrawCond]
  (repeat' split) <;> simp

@[simp] theorem setCond_frame (k : FaultKind) (v : Bool) (s : Station) :
    (setCond k v s).start = s.start ∧ (setCond k v s).sense = s.sense ∧ (setCond k v s).subMs = s.subMs := by
  simp only [setCond]
  (repeat' split) <;> simp

@[simp] theorem takeStanding_frame (s : Station) :
    (takeStanding s).start = s.start ∧ (takeStanding s).sense = s.sense ∧ (takeStanding s).subMs = s.subMs := by
  simp only [takeStanding, List.foldl]
  (repeat' split) <;> simp

@[simp] theorem releaseStation_frame (s : Station) :
    (releaseStation s).start = s.start ∧ (releaseStation s).sense = s.sense ∧ (releaseStation s).subMs = s.subMs := by
  simp only [releaseStation]
  (repeat' split) <;> simp

@[simp] theorem clearanceOut_frame (s : Station) :
    (clearanceOut s).nv = s.nv ∧ (clearanceOut s).start = s.start ∧ (clearanceOut s).sense = s.sense ∧
    (clearanceOut s).subMs = s.subMs := by
  simp only [clearanceOut]
  (repeat' split) <;> simp

@[simp] theorem tempCheck_frame (a : Bool) (s : Station) :
    (tempCheck a s).start = s.start ∧ (tempCheck a s).sense = s.sense ∧ (tempCheck a s).subMs = s.subMs := by
  simp only [tempCheck]
  (repeat' split) <;> simp

@[simp] theorem overtempOut_frame (s : Station) :
    (overtempOut s).start = s.start ∧ (overtempOut s).sense = s.sense ∧ (overtempOut s).subMs = s.subMs := by
  simp only [overtempOut]
  (repeat' split) <;> simp

@[simp] theorem undertempOut_frame (s : Station) :
    (undertempOut s).start = s.start ∧ (undertempOut s).sense = s.sense ∧ (undertempOut s).subMs = s.subMs := by
  simp only [undertempOut]
  (repeat' split) <;> simp

@[simp] theorem leakTestOut_frame (s : Station) :
    (leakTestOut s).start = s.start ∧ (leakTestOut s).sense = s.sense ∧ (leakTestOut s).subMs = s.subMs := by
  simp only [leakTestOut]
  (repeat' split) <;> simp

@[simp] theorem gasOpenOut_frame (s : Station) :
    (gasOpenOut s).start = s.start ∧ (gasOpenOut s).sense = s.sense ∧ (gasOpenOut s).subMs = s.subMs := by
  simp only [gasOpenOut]
  (repeat' split) <;> simp

@[simp] theorem overpressureCheck_frame (s : Station) :
    (overpressureCheck s).start = s.start ∧ (overpressureCheck s).sense = s.sense ∧
    (overpressureCheck s).subMs = s.subMs := by
  simp only [overpressureCheck]
  (repeat' split) <;> simp

@[simp] theorem pressConversion_frame (r : Option Int) (s : Station) :
    (pressConversion r s).start = s.start ∧ (pressConversion r s).subMs = s.subMs := by
  simp only [pressConversion]
  (repeat' split) <;> simp

@[simp] theorem probeSample_frame (w : ProbeId) (c : Option Int) (s : Station) :
    (probeSample w c s).start = s.start ∧ (probeSample w c s).subMs = s.subMs := by
  simp only [probeSample]
  (repeat' split) <;> simp

@[simp] theorem probeHoldOut_frame (w : ProbeId) (s : Station) :
    (probeHoldOut w s).start = s.start ∧ (probeHoldOut w s).subMs = s.subMs := by
  simp only [probeHoldOut]
  (repeat' split) <;> simp

@[simp] theorem stepCurrent_frame (b : Batch) (s : Station) :
    (stepCurrent b s).nv = s.nv ∧ (stepCurrent b s).start = s.start ∧ (stepCurrent b s).sense = s.sense ∧
    (stepCurrent b s).keg = s.keg ∧ (stepCurrent b s).press = s.press ∧ (stepCurrent b s).pools = s.pools ∧
    (stepCurrent b s).link = s.link ∧ (stepCurrent b s).pour = s.pour ∧ (stepCurrent b s).exc = s.exc ∧
    (stepCurrent b s).req = s.req ∧ (stepCurrent b s).subMs = s.subMs := by
  simp only [stepCurrent]
  (repeat' split) <;> simp

@[simp] theorem endStep_frame (b : Batch) (s : Station) :
    (endStep b s).start = s.start ∧ (endStep b s).sense = s.sense ∧ (endStep b s).press = s.press ∧
    (endStep b s).pools = s.pools ∧ (endStep b s).pour = s.pour ∧ (endStep b s).exc = s.exc ∧
    (endStep b s).subMs = s.subMs := by
  simp only [endStep]
  (repeat' split) <;> simp

@[simp] theorem modeMark_frame (m : Option PMode) (s : Station) :
    (modeMark m s).nv = s.nv ∧ (modeMark m s).start = s.start ∧ (modeMark m s).sense = s.sense ∧
    (modeMark m s).keg = s.keg ∧ (modeMark m s).prog = s.prog ∧ (modeMark m s).pools = s.pools ∧
    (modeMark m s).link = s.link ∧ (modeMark m s).pour = s.pour ∧ (modeMark m s).exc = s.exc ∧
    (modeMark m s).health = s.health ∧ (modeMark m s).req = s.req ∧ (modeMark m s).subMs = s.subMs := by
  simp only [modeMark]
  (repeat' split) <;> simp

@[simp] theorem stepEnd_frame (s : Station) :
    (stepEnd s).start = s.start ∧ (stepEnd s).sense = s.sense ∧ (stepEnd s).subMs = s.subMs := by
  simp only [stepEnd, withSetpoint, withMode]
  (repeat' split) <;> simp

@[simp] theorem stepEndIf_frame (c : Bool) (s : Station) :
    (stepEndIf c s).start = s.start ∧ (stepEndIf c s).sense = s.sense ∧ (stepEndIf c s).subMs = s.subMs := by
  simp only [stepEndIf]
  (repeat' split) <;> simp

@[simp] theorem riseMinute_frame (s : Station) :
    (riseMinute s).nv = s.nv ∧ (riseMinute s).start = s.start ∧ (riseMinute s).sense = s.sense ∧
    (riseMinute s).press = s.press ∧ (riseMinute s).pools = s.pools ∧ (riseMinute s).link = s.link ∧
    (riseMinute s).pour = s.pour ∧ (riseMinute s).exc = s.exc ∧ (riseMinute s).health = s.health ∧
    (riseMinute s).req = s.req ∧ (riseMinute s).subMs = s.subMs := by
  simp only [riseMinute]
  (repeat' split) <;> simp

@[simp] theorem stepMinute_frame (s : Station) :
    (stepMinute s).start = s.start ∧ (stepMinute s).sense = s.sense ∧ (stepMinute s).subMs = s.subMs := by
  simp only [stepMinute, withSetpoint]
  (repeat' split) <;> simp

@[simp] theorem crashInBand_frame (s : Station) :
    (crashInBand s).start = s.start ∧ (crashInBand s).sense = s.sense ∧ (crashInBand s).subMs = s.subMs := by
  simp only [crashInBand]
  (repeat' split) <;> simp

@[simp] theorem hourBroken_frame (s : Station) :
    (hourBroken s).nv = s.nv ∧ (hourBroken s).start = s.start ∧ (hourBroken s).sense = s.sense ∧
    (hourBroken s).keg = s.keg ∧ (hourBroken s).prog = s.prog ∧ (hourBroken s).pools = s.pools ∧
    (hourBroken s).link = s.link ∧ (hourBroken s).pour = s.pour ∧ (hourBroken s).exc = s.exc ∧
    (hourBroken s).health = s.health ∧ (hourBroken s).req = s.req ∧ (hourBroken s).subMs = s.subMs := by
  simp only [hourBroken]
  (repeat' split) <;> simp

@[simp] theorem openBatch_frame (b : Batch) (s : Station) :
    (openBatch b s).start = s.start ∧ (openBatch b s).sense = s.sense ∧ (openBatch b s).pools = s.pools ∧
    (openBatch b s).subMs = s.subMs := by
  simp only [openBatch]
  (repeat' split) <;> simp

@[simp] theorem startBatch_frame (b : Batch) (s : Station) :
    (startBatch b s).start = s.start ∧ (startBatch b s).sense = s.sense ∧ (startBatch b s).subMs = s.subMs := by
  simp only [startBatch, withSetpoint, withMode]
  (repeat' split) <;> simp

@[simp] theorem dropBatch_frame (b : Bool) (s : Station) :
    (dropBatch b s).start = s.start ∧ (dropBatch b s).sense = s.sense ∧ (dropBatch b s).prog = s.prog ∧
    (dropBatch b s).pools = s.pools ∧ (dropBatch b s).pour = s.pour ∧ (dropBatch b s).exc = s.exc ∧
    (dropBatch b s).subMs = s.subMs := by
  simp only [dropBatch]
  (repeat' split) <;> simp

@[simp] theorem closeBatch_frame (b : Bool) (s : Station) :
    (closeBatch b s).start = s.start ∧ (closeBatch b s).sense = s.sense ∧ (closeBatch b s).subMs = s.subMs := by
  simp only [closeBatch, withSetpoint, withMode]
  (repeat' split) <;> simp

@[simp] theorem inBand_frame (s : Station) :
    (inBand s).nv = s.nv ∧ (inBand s).start = s.start ∧ (inBand s).sense = s.sense ∧ (inBand s).keg = s.keg ∧
    (inBand s).press = s.press ∧ (inBand s).pools = s.pools ∧ (inBand s).pour = s.pour ∧ (inBand s).exc = s.exc ∧
    (inBand s).subMs = s.subMs := by
  simp only [inBand]
  (repeat' split) <;> simp

@[simp] theorem pairAtCycle_frame (s : Station) :
    (pairAtCycle s).nv = s.nv ∧ (pairAtCycle s).start = s.start ∧ (pairAtCycle s).sense = s.sense ∧
    (pairAtCycle s).keg = s.keg ∧ (pairAtCycle s).press = s.press ∧ (pairAtCycle s).pools = s.pools ∧
    (pairAtCycle s).link = s.link ∧ (pairAtCycle s).pour = s.pour ∧ (pairAtCycle s).exc = s.exc ∧
    (pairAtCycle s).health = s.health ∧ (pairAtCycle s).req = s.req ∧ (pairAtCycle s).subMs = s.subMs := by
  simp only [pairAtCycle]
  (repeat' split) <;> simp

@[simp] theorem latchDemands_frame (s : Station) :
    (latchDemands s).nv = s.nv ∧ (latchDemands s).start = s.start ∧ (latchDemands s).sense = s.sense ∧
    (latchDemands s).keg = s.keg ∧ (latchDemands s).press = s.press ∧ (latchDemands s).pools = s.pools ∧
    (latchDemands s).link = s.link ∧ (latchDemands s).pour = s.pour ∧ (latchDemands s).exc = s.exc ∧
    (latchDemands s).health = s.health ∧ (latchDemands s).req = s.req ∧ (latchDemands s).subMs = s.subMs := by
  simp only [latchDemands]
  (repeat' split) <;> simp

@[simp] theorem controlPeriod_frame (s : Station) :
    (controlPeriod s).start = s.start ∧ (controlPeriod s).sense = s.sense ∧ (controlPeriod s).subMs = s.subMs := by
  simp only [controlPeriod, withSetpoint]
  (repeat' split) <;> simp

@[simp] theorem addActivity_frame (b : Bool) (s : Station) :
    (addActivity b s).nv = s.nv ∧ (addActivity b s).start = s.start ∧ (addActivity b s).sense = s.sense ∧
    (addActivity b s).keg = s.keg ∧ (addActivity b s).prog = s.prog ∧ (addActivity b s).pools = s.pools ∧
    (addActivity b s).link = s.link ∧ (addActivity b s).pour = s.pour ∧ (addActivity b s).exc = s.exc ∧
    (addActivity b s).health = s.health ∧ (addActivity b s).req = s.req ∧ (addActivity b s).subMs = s.subMs := by
  simp only [addActivity]
  (repeat' split) <;> simp

@[simp] theorem trackHour_frame (b : Bool) (s : Station) :
    (trackHour b s).nv = s.nv ∧ (trackHour b s).start = s.start ∧ (trackHour b s).sense = s.sense ∧
    (trackHour b s).keg = s.keg ∧ (trackHour b s).prog = s.prog ∧ (trackHour b s).pools = s.pools ∧
    (trackHour b s).link = s.link ∧ (trackHour b s).pour = s.pour ∧ (trackHour b s).exc = s.exc ∧
    (trackHour b s).health = s.health ∧ (trackHour b s).req = s.req ∧ (trackHour b s).subMs = s.subMs := by
  simp only [trackHour]
  (repeat' split) <;> simp

@[simp] theorem gasPeriod_frame (s : Station) :
    (gasPeriod s).nv = s.nv ∧ (gasPeriod s).start = s.start ∧ (gasPeriod s).sense = s.sense ∧
    (gasPeriod s).keg = s.keg ∧ (gasPeriod s).prog = s.prog ∧ (gasPeriod s).pools = s.pools ∧
    (gasPeriod s).link = s.link ∧ (gasPeriod s).pour = s.pour ∧ (gasPeriod s).exc = s.exc ∧
    (gasPeriod s).req = s.req ∧ (gasPeriod s).subMs = s.subMs := by
  simp only [gasPeriod]
  (repeat' split) <;> simp

@[simp] theorem pourRequests_frame (s : Station) :
    (pourRequests s).nv = s.nv ∧ (pourRequests s).start = s.start ∧ (pourRequests s).sense = s.sense ∧
    (pourRequests s).exc = s.exc ∧ (pourRequests s).subMs = s.subMs := by
  simp only [pourRequests]
  (repeat' split) <;> simp

@[simp] theorem pressDecisions_frame (s : Station) :
    (pressDecisions s).nv = s.nv ∧ (pressDecisions s).start = s.start ∧ (pressDecisions s).sense = s.sense ∧
    (pressDecisions s).exc = s.exc ∧ (pressDecisions s).subMs = s.subMs := by
  simp only [pressDecisions]
  (repeat' split) <;> simp

@[simp] theorem pressPeriod_frame (s : Station) :
    (pressPeriod s).nv = s.nv ∧ (pressPeriod s).start = s.start ∧ (pressPeriod s).sense = s.sense ∧
    (pressPeriod s).exc = s.exc ∧ (pressPeriod s).subMs = s.subMs := by
  simp only [pressPeriod]
  (repeat' split) <;> simp

@[simp] theorem writeEstimate_frame (s : Station) :
    (writeEstimate s).nv = s.nv ∧ (writeEstimate s).start = s.start ∧ (writeEstimate s).sense = s.sense ∧
    (writeEstimate s).prog = s.prog ∧ (writeEstimate s).press = s.press ∧ (writeEstimate s).pools = s.pools ∧
    (writeEstimate s).link = s.link ∧ (writeEstimate s).pour = s.pour ∧ (writeEstimate s).exc = s.exc ∧
    (writeEstimate s).health = s.health ∧ (writeEstimate s).req = s.req ∧ (writeEstimate s).subMs = s.subMs := by
  simp only [writeEstimate]
  (repeat' split) <;> simp

@[simp] theorem logHour_frame (s : Station) :
    (logHour s).start = s.start ∧ (logHour s).sense = s.sense ∧ (logHour s).subMs = s.subMs := by
  simp only [logHour]
  (repeat' split) <;> simp

@[simp] theorem hourEnd_frame (s : Station) :
    (hourEnd s).start = s.start ∧ (hourEnd s).sense = s.sense ∧ (hourEnd s).subMs = s.subMs := by
  simp only [hourEnd]
  (repeat' split) <;> simp

@[simp] theorem latchKeg_frame (s : Station) :
    (latchKeg s).nv = s.nv ∧ (latchKeg s).start = s.start ∧ (latchKeg s).sense = s.sense ∧ (latchKeg s).keg = s.keg ∧
    (latchKeg s).prog = s.prog ∧ (latchKeg s).press = s.press ∧ (latchKeg s).pools = s.pools ∧
    (latchKeg s).pour = s.pour ∧ (latchKeg s).exc = s.exc ∧ (latchKeg s).health = s.health ∧
    (latchKeg s).subMs = s.subMs := by
  simp only [latchKeg]
  (repeat' split) <;> simp

@[simp] theorem kegIn_frame (s : Station) :
    (kegIn s).nv = s.nv ∧ (kegIn s).start = s.start ∧ (kegIn s).keg = s.keg ∧ (kegIn s).exc = s.exc ∧
    (kegIn s).subMs = s.subMs := by
  simp only [kegIn]
  (repeat' split) <;> simp

@[simp] theorem kegOut_frame (s : Station) :
    (kegOut s).start = s.start ∧ (kegOut s).subMs = s.subMs := by
  simp only [kegOut]
  (repeat' split) <;> simp

@[simp] theorem runSingle_frame (s : Station) :
    (runSingle s).nv = s.nv ∧ (runSingle s).start = s.start ∧ (runSingle s).sense = s.sense ∧
    (runSingle s).keg = s.keg ∧ (runSingle s).pour = s.pour ∧ (runSingle s).exc = s.exc ∧
    (runSingle s).health = s.health ∧ (runSingle s).req = s.req ∧ (runSingle s).subMs = s.subMs := by
  simp only [runSingle]
  (repeat' split) <;> simp

@[simp] theorem loseLead_frame (s : Station) :
    (loseLead s).nv = s.nv ∧ (loseLead s).start = s.start ∧ (loseLead s).sense = s.sense ∧ (loseLead s).keg = s.keg ∧
    (loseLead s).press = s.press ∧ (loseLead s).pools = s.pools ∧ (loseLead s).pour = s.pour ∧
    (loseLead s).exc = s.exc ∧ (loseLead s).health = s.health ∧ (loseLead s).subMs = s.subMs := by
  simp only [loseLead]
  (repeat' split) <;> simp

@[simp] theorem leadHears_frame (r : Role) (s : Station) :
    (leadHears r s).nv = s.nv ∧ (leadHears r s).start = s.start ∧ (leadHears r s).sense = s.sense ∧
    (leadHears r s).keg = s.keg ∧ (leadHears r s).pour = s.pour ∧ (leadHears r s).exc = s.exc ∧
    (leadHears r s).health = s.health ∧ (leadHears r s).subMs = s.subMs := by
  simp only [leadHears]
  (repeat' split) <;> simp

@[simp] theorem followerHears_frame (r : Role) (s : Station) :
    (followerHears r s).nv = s.nv ∧ (followerHears r s).start = s.start ∧ (followerHears r s).sense = s.sense ∧
    (followerHears r s).keg = s.keg ∧ (followerHears r s).press = s.press ∧ (followerHears r s).pools = s.pools ∧
    (followerHears r s).pour = s.pour ∧ (followerHears r s).exc = s.exc ∧ (followerHears r s).health = s.health ∧
    (followerHears r s).subMs = s.subMs := by
  simp only [followerHears]
  (repeat' split) <;> simp

@[simp] theorem pairHears_frame (n : Nat) (r : Role) (s : Station) :
    (pairHears n r s).nv = s.nv ∧ (pairHears n r s).start = s.start ∧ (pairHears n r s).sense = s.sense ∧
    (pairHears n r s).keg = s.keg ∧ (pairHears n r s).pour = s.pour ∧ (pairHears n r s).exc = s.exc ∧
    (pairHears n r s).health = s.health ∧ (pairHears n r s).subMs = s.subMs := by
  simp only [pairHears]
  (repeat' split) <;> simp

@[simp] theorem leadClaim_frame (n : Nat) (c : ClaimNotice) (s : Station) :
    (leadClaim n c s).nv = s.nv ∧ (leadClaim n c s).start = s.start ∧ (leadClaim n c s).sense = s.sense ∧
    (leadClaim n c s).keg = s.keg ∧ (leadClaim n c s).pour = s.pour ∧ (leadClaim n c s).exc = s.exc ∧
    (leadClaim n c s).health = s.health ∧ (leadClaim n c s).req = s.req ∧ (leadClaim n c s).subMs = s.subMs := by
  simp only [leadClaim]
  (repeat' split) <;> simp

@[simp] theorem withPeer_frame (e : Peer) (s : Station) :
    (s.withPeer e).nv = s.nv ∧ (s.withPeer e).start = s.start ∧ (s.withPeer e).sense = s.sense ∧
    (s.withPeer e).keg = s.keg ∧ (s.withPeer e).prog = s.prog ∧ (s.withPeer e).press = s.press ∧
    (s.withPeer e).link = s.link ∧ (s.withPeer e).pour = s.pour ∧ (s.withPeer e).exc = s.exc ∧
    (s.withPeer e).health = s.health ∧ (s.withPeer e).req = s.req ∧ (s.withPeer e).subMs = s.subMs := by
  simp only [Station.withPeer]
  (repeat' split) <;> simp

@[simp] theorem viewChanged_frame (s : Station) :
    (viewChanged s).nv = s.nv ∧ (viewChanged s).start = s.start ∧ (viewChanged s).sense = s.sense ∧
    (viewChanged s).keg = s.keg ∧ (viewChanged s).pour = s.pour ∧ (viewChanged s).exc = s.exc ∧
    (viewChanged s).health = s.health ∧ (viewChanged s).req = s.req ∧ (viewChanged s).subMs = s.subMs := by
  simp only [viewChanged]
  (repeat' split) <;> simp

@[simp] theorem pairChecked_frame (n : Nat) (r : Role) (s : Station) :
    (pairChecked n r s).start = s.start ∧ (pairChecked n r s).sense = s.sense ∧ (pairChecked n r s).subMs = s.subMs := by
  simp only [pairChecked, withSetpoint]
  (repeat' split) <;> simp

@[simp] theorem hearClaim_frame (n : Nat) (c : ClaimNotice) (s : Station) :
    (hearClaim n c s).start = s.start ∧ (hearClaim n c s).sense = s.sense ∧ (hearClaim n c s).subMs = s.subMs := by
  simp only [hearClaim, withSetpoint]
  (repeat' split) <;> simp

@[simp] theorem lowerHeard_frame (b : PerPool Nat) (s : Station) :
    (lowerHeard b s).nv = s.nv ∧ (lowerHeard b s).sense = s.sense ∧ (lowerHeard b s).keg = s.keg ∧
    (lowerHeard b s).prog = s.prog ∧ (lowerHeard b s).press = s.press ∧ (lowerHeard b s).pools = s.pools ∧
    (lowerHeard b s).link = s.link ∧ (lowerHeard b s).pour = s.pour ∧ (lowerHeard b s).exc = s.exc ∧
    (lowerHeard b s).health = s.health ∧ (lowerHeard b s).req = s.req ∧ (lowerHeard b s).subMs = s.subMs := by
  simp only [lowerHeard]
  (repeat' split) <;> simp

@[simp] theorem adoptLower_frame (p : Pool) (b : Nat) (s : Station) :
    (adoptLower p b s).nv = s.nv ∧ (adoptLower p b s).start = s.start ∧ (adoptLower p b s).sense = s.sense ∧
    (adoptLower p b s).keg = s.keg ∧ (adoptLower p b s).pour = s.pour ∧ (adoptLower p b s).exc = s.exc ∧
    (adoptLower p b s).health = s.health ∧ (adoptLower p b s).subMs = s.subMs := by
  simp only [adoptLower]
  (repeat' split) <;> simp

@[simp] theorem takeBudgets_frame (b : PerPool Nat) (s : Station) :
    (takeBudgets b s).nv = s.nv ∧ (takeBudgets b s).sense = s.sense ∧ (takeBudgets b s).keg = s.keg ∧
    (takeBudgets b s).pour = s.pour ∧ (takeBudgets b s).exc = s.exc ∧ (takeBudgets b s).health = s.health ∧
    (takeBudgets b s).subMs = s.subMs := by
  simp only [takeBudgets]
  (repeat' split) <;> simp

@[simp] theorem writePeerLine_frame (n : Nat) (l : PeerLine) (s : Station) :
    (writePeerLine n l s).nv = s.nv ∧ (writePeerLine n l s).start = s.start ∧ (writePeerLine n l s).sense = s.sense ∧
    (writePeerLine n l s).keg = s.keg ∧ (writePeerLine n l s).prog = s.prog ∧ (writePeerLine n l s).press = s.press ∧
    (writePeerLine n l s).pools = s.pools ∧ (writePeerLine n l s).link = s.link ∧
    (writePeerLine n l s).pour = s.pour ∧ (writePeerLine n l s).health = s.health ∧
    (writePeerLine n l s).req = s.req ∧ (writePeerLine n l s).subMs = s.subMs := by
  simp only [writePeerLine]
  (repeat' split) <;> simp

@[simp] theorem hearPresence_frame (n : Nat) (p : PresNotice) (s : Station) :
    (hearPresence n p s).sense = s.sense ∧ (hearPresence n p s).subMs = s.subMs := by
  simp only [hearPresence]
  (repeat' split) <;> simp

@[simp] theorem hearExcursion_frame (n : Nat) (x : ExcNotice) (s : Station) :
    (hearExcursion n x s).start = s.start ∧ (hearExcursion n x s).sense = s.sense ∧
    (hearExcursion n x s).subMs = s.subMs := by
  simp only [hearExcursion]
  (repeat' split) <;> simp

@[simp] theorem partnerGone_frame (s : Station) :
    (partnerGone s).nv = s.nv ∧ (partnerGone s).start = s.start ∧ (partnerGone s).sense = s.sense ∧
    (partnerGone s).keg = s.keg ∧ (partnerGone s).pour = s.pour ∧ (partnerGone s).exc = s.exc ∧
    (partnerGone s).health = s.health ∧ (partnerGone s).subMs = s.subMs := by
  simp only [partnerGone]
  (repeat' split) <;> simp

@[simp] theorem ageEntries_frame (s : Station) :
    (ageEntries s).start = s.start ∧ (ageEntries s).sense = s.sense ∧ (ageEntries s).subMs = s.subMs := by
  simp only [ageEntries, withSetpoint]
  (repeat' split) <;> simp

@[simp] theorem placePresence_frame (s : Station) :
    (placePresence s).nv = s.nv ∧ (placePresence s).sense = s.sense ∧ (placePresence s).keg = s.keg ∧
    (placePresence s).prog = s.prog ∧ (placePresence s).press = s.press ∧ (placePresence s).pools = s.pools ∧
    (placePresence s).pour = s.pour ∧ (placePresence s).exc = s.exc ∧ (placePresence s).health = s.health ∧
    (placePresence s).req = s.req ∧ (placePresence s).subMs = s.subMs := by
  simp only [placePresence]
  (repeat' split) <;> simp

@[simp] theorem presencePlacement_frame (s : Station) :
    (presencePlacement s).nv = s.nv ∧ (presencePlacement s).sense = s.sense ∧ (presencePlacement s).keg = s.keg ∧
    (presencePlacement s).prog = s.prog ∧ (presencePlacement s).press = s.press ∧
    (presencePlacement s).pools = s.pools ∧ (presencePlacement s).pour = s.pour ∧ (presencePlacement s).exc = s.exc ∧
    (presencePlacement s).health = s.health ∧ (presencePlacement s).req = s.req ∧
    (presencePlacement s).subMs = s.subMs := by
  simp only [presencePlacement]
  (repeat' split) <;> simp

@[simp] theorem boundary_frame (s : Station) :
    (boundary s).sense = s.sense ∧ (boundary s).subMs = s.subMs := by
  simp only [boundary]
  (repeat' split) <;> simp

@[simp] theorem adoptBudgets_frame (s : Station) :
    (adoptBudgets s).nv = s.nv ∧ (adoptBudgets s).start = s.start ∧ (adoptBudgets s).sense = s.sense ∧
    (adoptBudgets s).keg = s.keg ∧ (adoptBudgets s).pour = s.pour ∧ (adoptBudgets s).exc = s.exc ∧
    (adoptBudgets s).health = s.health ∧ (adoptBudgets s).subMs = s.subMs := by
  simp only [adoptBudgets]
  (repeat' split) <;> simp

@[simp] theorem settlePair_frame (s : Station) :
    (settlePair s).nv = s.nv ∧ (settlePair s).start = s.start ∧ (settlePair s).sense = s.sense ∧
    (settlePair s).keg = s.keg ∧ (settlePair s).press = s.press ∧ (settlePair s).pools = s.pools ∧
    (settlePair s).pour = s.pour ∧ (settlePair s).exc = s.exc ∧ (settlePair s).health = s.health ∧
    (settlePair s).subMs = s.subMs := by
  simp only [settlePair]
  (repeat' split) <;> simp

@[simp] theorem emptyPresence_frame (s : Station) :
    (emptyPresence s).nv = s.nv ∧ (emptyPresence s).sense = s.sense ∧ (emptyPresence s).keg = s.keg ∧
    (emptyPresence s).prog = s.prog ∧ (emptyPresence s).press = s.press ∧ (emptyPresence s).pools = s.pools ∧
    (emptyPresence s).pour = s.pour ∧ (emptyPresence s).exc = s.exc ∧ (emptyPresence s).health = s.health ∧
    (emptyPresence s).req = s.req ∧ (emptyPresence s).subMs = s.subMs := by
  simp only [emptyPresence]
  (repeat' split) <;> simp

@[simp] theorem clearH_frame (s : Station) :
    (clearH s).nv = s.nv ∧ (clearH s).start = s.start ∧ (clearH s).sense = s.sense ∧ (clearH s).keg = s.keg ∧
    (clearH s).press = s.press ∧ (clearH s).pools = s.pools ∧ (clearH s).link = s.link ∧ (clearH s).pour = s.pour ∧
    (clearH s).health = s.health ∧ (clearH s).req = s.req ∧ (clearH s).subMs = s.subMs := by
  simp only [clearH]
  (repeat' split) <;> simp

@[simp] theorem windowEnd_frame (s : Station) :
    (windowEnd s).sense = s.sense ∧ (windowEnd s).subMs = s.subMs := by
  simp only [windowEnd, withSetpoint]
  (repeat' split) <;> simp

@[simp] theorem idleOffer_frame (s : Station) :
    (idleOffer s).nv = s.nv ∧ (idleOffer s).start = s.start ∧ (idleOffer s).sense = s.sense ∧
    (idleOffer s).keg = s.keg ∧ (idleOffer s).prog = s.prog ∧ (idleOffer s).press = s.press ∧
    (idleOffer s).pools = s.pools ∧ (idleOffer s).pour = s.pour ∧ (idleOffer s).exc = s.exc ∧
    (idleOffer s).health = s.health ∧ (idleOffer s).req = s.req ∧ (idleOffer s).subMs = s.subMs := by
  simp only [idleOffer]
  (repeat' split) <;> simp

@[simp] theorem endTx_frame (s : Station) :
    (endTx s).nv = s.nv ∧ (endTx s).start = s.start ∧ (endTx s).sense = s.sense ∧ (endTx s).keg = s.keg ∧
    (endTx s).prog = s.prog ∧ (endTx s).press = s.press ∧ (endTx s).pools = s.pools ∧ (endTx s).pour = s.pour ∧
    (endTx s).exc = s.exc ∧ (endTx s).health = s.health ∧ (endTx s).req = s.req ∧ (endTx s).subMs = s.subMs := by
  simp only [endTx]
  (repeat' split) <;> simp

@[simp] theorem endReport_frame (s : Station) :
    (endReport s).nv = s.nv ∧ (endReport s).start = s.start ∧ (endReport s).sense = s.sense ∧
    (endReport s).keg = s.keg ∧ (endReport s).prog = s.prog ∧ (endReport s).press = s.press ∧
    (endReport s).pools = s.pools ∧ (endReport s).link = s.link ∧ (endReport s).pour = s.pour ∧
    (endReport s).exc = s.exc ∧ (endReport s).health = s.health ∧ (endReport s).subMs = s.subMs := by
  simp only [endReport]
  (repeat' split) <;> simp

@[simp] theorem arbLost_frame (s : Station) :
    (arbLost s).nv = s.nv ∧ (arbLost s).start = s.start ∧ (arbLost s).sense = s.sense ∧ (arbLost s).keg = s.keg ∧
    (arbLost s).prog = s.prog ∧ (arbLost s).press = s.press ∧ (arbLost s).pools = s.pools ∧
    (arbLost s).pour = s.pour ∧ (arbLost s).exc = s.exc ∧ (arbLost s).health = s.health ∧
    (arbLost s).subMs = s.subMs := by
  simp only [arbLost]
  (repeat' split) <;> simp

@[simp] theorem enterMute_frame (s : Station) :
    (enterMute s).start = s.start ∧ (enterMute s).sense = s.sense ∧ (enterMute s).subMs = s.subMs := by
  simp only [enterMute]
  (repeat' split) <;> simp

@[simp] theorem countDrop_frame (d : Bool) (s : Station) :
    (countDrop d s).start = s.start ∧ (countDrop d s).sense = s.sense ∧ (countDrop d s).subMs = s.subMs := by
  simp only [countDrop]
  (repeat' split) <;> simp

@[simp] theorem claimFailed_frame (s : Station) :
    (claimFailed s).start = s.start ∧ (claimFailed s).sense = s.sense ∧ (claimFailed s).subMs = s.subMs := by
  simp only [claimFailed]
  (repeat' split) <;> simp

@[simp] theorem bitError_frame (s : Station) :
    (bitError s).sense = s.sense ∧ (bitError s).subMs = s.subMs := by
  simp only [bitError]
  (repeat' split) <;> simp

@[simp] theorem claimsSent_frame (c : ClaimNotice) (s : Station) :
    (claimsSent c s).nv = s.nv ∧ (claimsSent c s).start = s.start ∧ (claimsSent c s).sense = s.sense ∧
    (claimsSent c s).keg = s.keg ∧ (claimsSent c s).prog = s.prog ∧ (claimsSent c s).press = s.press ∧
    (claimsSent c s).link = s.link ∧ (claimsSent c s).pour = s.pour ∧ (claimsSent c s).exc = s.exc ∧
    (claimsSent c s).health = s.health ∧ (claimsSent c s).req = s.req ∧ (claimsSent c s).subMs = s.subMs := by
  simp only [claimsSent]
  (repeat' split) <;> simp

@[simp] theorem askStillWaiting_frame (s : Station) :
    (askStillWaiting s).nv = s.nv ∧ (askStillWaiting s).start = s.start ∧ (askStillWaiting s).sense = s.sense ∧
    (askStillWaiting s).keg = s.keg ∧ (askStillWaiting s).prog = s.prog ∧ (askStillWaiting s).press = s.press ∧
    (askStillWaiting s).pools = s.pools ∧ (askStillWaiting s).pour = s.pour ∧ (askStillWaiting s).exc = s.exc ∧
    (askStillWaiting s).health = s.health ∧ (askStillWaiting s).req = s.req ∧ (askStillWaiting s).subMs = s.subMs := by
  simp only [askStillWaiting]
  (repeat' split) <;> simp

@[simp] theorem sentClaim_frame (s : Station) :
    (sentClaim s).nv = s.nv ∧ (sentClaim s).start = s.start ∧ (sentClaim s).sense = s.sense ∧
    (sentClaim s).subMs = s.subMs := by
  simp only [sentClaim]
  (repeat' split) <;> simp

@[simp] theorem sentEvent_frame (s : Station) :
    (sentEvent s).nv = s.nv ∧ (sentEvent s).start = s.start ∧ (sentEvent s).sense = s.sense ∧
    (sentEvent s).keg = s.keg ∧ (sentEvent s).prog = s.prog ∧ (sentEvent s).press = s.press ∧
    (sentEvent s).pools = s.pools ∧ (sentEvent s).pour = s.pour ∧ (sentEvent s).exc = s.exc ∧
    (sentEvent s).health = s.health ∧ (sentEvent s).subMs = s.subMs := by
  simp only [sentEvent]
  (repeat' split) <;> simp

@[simp] theorem sendDone_frame (s : Station) :
    (sendDone s).nv = s.nv ∧ (sendDone s).sense = s.sense ∧ (sendDone s).subMs = s.subMs := by
  simp only [sendDone]
  (repeat' split) <;> simp

@[simp] theorem countFrame_frame (b : Bool) (s : Station) :
    (countFrame b s).nv = s.nv ∧ (countFrame b s).start = s.start ∧ (countFrame b s).sense = s.sense ∧
    (countFrame b s).keg = s.keg ∧ (countFrame b s).pour = s.pour ∧ (countFrame b s).exc = s.exc ∧
    (countFrame b s).subMs = s.subMs := by
  simp only [countFrame]
  (repeat' split) <;> simp

@[simp] theorem takeClaim_frame (n : Nat) (p : List Byte) (s : Station) :
    (takeClaim n p s).start = s.start ∧ (takeClaim n p s).sense = s.sense ∧ (takeClaim n p s).subMs = s.subMs := by
  simp only [takeClaim]
  (repeat' split) <;> simp

@[simp] theorem takePresence_frame (n : Nat) (p : List Byte) (s : Station) :
    (takePresence n p s).sense = s.sense ∧ (takePresence n p s).subMs = s.subMs := by
  simp only [takePresence]
  (repeat' split) <;> simp

@[simp] theorem takeExcursion_frame (n : Nat) (p : List Byte) (s : Station) :
    (takeExcursion n p s).start = s.start ∧ (takeExcursion n p s).sense = s.sense ∧
    (takeExcursion n p s).subMs = s.subMs := by
  simp only [takeExcursion]
  (repeat' split) <;> simp

end Sys2Proof.Machine
end

