-- ==== Sys2Proof/Laws/Keeps.lean ====
section
/-! SUPPORT. One lemma for each operation that touches a unit: the items of that unit which it leaves as they
are. -/
namespace Sys2Proof.Machine
open Sys2Proof

@[simp] theorem placeReport_keeps (s : Station) :
    (placeReport s).link.replies = s.link.replies ∧ (placeReport s).link.tx = s.link.tx ∧
    (placeReport s).link.mute = s.link.mute ∧ (placeReport s).link.consec = s.link.consec ∧
    (placeReport s).link.drops = s.link.drops ∧ (placeReport s).link.rx = s.link.rx ∧
    (placeReport s).link.errored = s.link.errored ∧ (placeReport s).link.overruns = s.link.overruns ∧
    (placeReport s).link.idleSeen = s.link.idleSeen := by
  simp only [placeReport]
  (repeat' split) <;> simp

@[simp] theorem setFlag_keeps (f : Flag) (s : Station) :
    (setFlag f s).link.replies = s.link.replies ∧ (setFlag f s).link.tx = s.link.tx ∧
    (setFlag f s).link.mute = s.link.mute ∧ (setFlag f s).link.consec = s.link.consec ∧
    (setFlag f s).link.drops = s.link.drops ∧ (setFlag f s).link.rx = s.link.rx ∧
    (setFlag f s).link.errored = s.link.errored ∧ (setFlag f s).link.overruns = s.link.overruns ∧
    (setFlag f s).link.idleSeen = s.link.idleSeen ∧ (setFlag f s).req.mask = s.req.mask ∧
    (setFlag f s).req.asm = s.req.asm ∧ (setFlag f s).req.abandoned = s.req.abandoned ∧
    (setFlag f s).req.restart = s.req.restart := by
  simp only [setFlag]
  (repeat' split) <;> simp

@[simp] theorem clearFlag_keeps (f : Flag) (s : Station) :
    (clearFlag f s).req.mask = s.req.mask ∧ (clearFlag f s).req.asm = s.req.asm ∧
    (clearFlag f s).req.abandoned = s.req.abandoned ∧ (clearFlag f s).req.restart = s.req.restart := by
  simp only [clearFlag]
  (repeat' split) <;> simp

@[simp] theorem setFlagIf_keeps (c : Bool) (f : Flag) (s : Station) :
    (setFlagIf c f s).link.replies = s.link.replies ∧ (setFlagIf c f s).link.tx = s.link.tx ∧
    (setFlagIf c f s).link.mute = s.link.mute ∧ (setFlagIf c f s).link.consec = s.link.consec ∧
    (setFlagIf c f s).link.drops = s.link.drops ∧ (setFlagIf c f s).link.rx = s.link.rx ∧
    (setFlagIf c f s).link.errored = s.link.errored ∧ (setFlagIf c f s).link.overruns = s.link.overruns ∧
    (setFlagIf c f s).link.idleSeen = s.link.idleSeen ∧ (setFlagIf c f s).req.mask = s.req.mask ∧
    (setFlagIf c f s).req.asm = s.req.asm ∧ (setFlagIf c f s).req.abandoned = s.req.abandoned ∧
    (setFlagIf c f s).req.restart = s.req.restart := by
  simp only [setFlagIf]
  (repeat' split) <;> simp

@[simp] theorem noteChange_keeps (s : Station) :
    (noteChange s).keg.loaded = s.keg.loaded ∧ (noteChange s).keg.tapLock = s.keg.tapLock := by
  simp only [noteChange]
  (repeat' split) <;> simp

@[simp] theorem writeBatch_keeps (f : Batch → Batch) (s : Station) :
    (writeBatch f s).keg.loaded = s.keg.loaded ∧ (writeBatch f s).keg.tapLock = s.keg.tapLock := by
  simp only [writeBatch]
  (repeat' split) <;> simp

@[simp] theorem writeTapLock_keeps (l : Bool) (s : Station) :
    (writeTapLock l s).keg.loaded = s.keg.loaded := by
  simp only [writeTapLock]
  (repeat' split) <;> simp

@[simp] theorem startCommit_keeps (s : Station) :
    (startCommit s).keg.loaded = s.keg.loaded ∧ (startCommit s).keg.tapLock = s.keg.tapLock := by
  simp only [startCommit]
  (repeat' split) <;> simp

@[simp] theorem commitTrigger_keeps (s : Station) :
    (commitTrigger s).keg.loaded = s.keg.loaded ∧ (commitTrigger s).keg.tapLock = s.keg.tapLock := by
  simp only [commitTrigger]
  (repeat' split) <;> simp

@[simp] theorem oneTrigger_keeps (b : Station) (s : Station) :
    (oneTrigger b s).keg.batch = s.keg.batch ∧ (oneTrigger b s).keg.tapLock = s.keg.tapLock ∧
    (oneTrigger b s).keg.loaded = s.keg.loaded ∧ (oneTrigger b s).keg.persist = s.keg.persist ∧
    (oneTrigger b s).keg.commit = s.keg.commit ∧ (oneTrigger b s).keg.changeMark = s.keg.changeMark ∧
    (oneTrigger b s).keg.timerMs = s.keg.timerMs ∧ (oneTrigger b s).keg.secs = s.keg.secs := by
  simp only [oneTrigger]
  (repeat' split) <;> simp

@[simp] theorem restartTimer_keeps (s : Station) :
    (restartTimer s).keg.loaded = s.keg.loaded ∧ (restartTimer s).keg.tapLock = s.keg.tapLock := by
  simp only [restartTimer]
  (repeat' split) <;> simp

@[simp] theorem afterCommit_keeps (s : Station) :
    (afterCommit s).req.mask = s.req.mask ∧ (afterCommit s).req.asm = s.req.asm ∧
    (afterCommit s).req.abandoned = s.req.abandoned ∧ (afterCommit s).keg.loaded = s.keg.loaded ∧
    (afterCommit s).keg.tapLock = s.keg.tapLock := by
  simp only [afterCommit]
  (repeat' split) <;> simp

@[simp] theorem completeCommit_keeps (c : Commit) (s : Station) :
    (completeCommit c s).req.mask = s.req.mask ∧ (completeCommit c s).req.asm = s.req.asm ∧
    (completeCommit c s).req.abandoned = s.req.abandoned ∧ (completeCommit c s).keg.loaded = s.keg.loaded ∧
    (completeCommit c s).keg.tapLock = s.keg.tapLock := by
  simp only [completeCommit]
  (repeat' split) <;> simp

@[simp] theorem commitTimerOut_keeps (s : Station) :
    (commitTimerOut s).keg.loaded = s.keg.loaded ∧ (commitTimerOut s).keg.tapLock = s.keg.tapLock := by
  simp only [commitTimerOut]
  (repeat' split) <;> simp

@[simp] theorem batchMinute_keeps (s : Station) :
    (batchMinute s).keg.loaded = s.keg.loaded ∧ (batchMinute s).keg.tapLock = s.keg.tapLock := by
  simp only [batchMinute]
  (repeat' split) <;> simp

@[simp] theorem writePour_keeps (d : Nat) (s : Station) :
    (writePour d s).keg.loaded = s.keg.loaded ∧ (writePour d s).keg.tapLock = s.keg.tapLock := by
  simp only [writePour]
  (repeat' split) <;> simp

@[simp] theorem cycleReaches_keeps (n : Nat) (s : Station) :
    (cycleReaches n s).prog.pair = s.prog.pair ∧ (cycleReaches n s).prog.mismatch = s.prog.mismatch ∧
    (cycleReaches n s).prog.vessel = s.prog.vessel ∧ (cycleReaches n s).prog.leadHeard = s.prog.leadHeard ∧
    (cycleReaches n s).prog.lastS = s.prog.lastS ∧ (cycleReaches n s).prog.secs = s.prog.secs ∧
    (cycleReaches n s).prog.inBandS = s.prog.inBandS ∧ (cycleReaches n s).prog.cPrev = s.prog.cPrev ∧
    (cycleReaches n s).prog.hPrev = s.prog.hPrev ∧ (cycleReaches n s).prog.cycleOn = s.prog.cycleOn ∧
    (cycleReaches n s).prog.starveMs = s.prog.starveMs := by
  simp only [cycleReaches]
  (repeat' split) <;> simp

@[simp] theorem setGlycolTime_keeps (t : Nat) (s : Station) :
    (setGlycolTime t s).prog.pair = s.prog.pair ∧ (setGlycolTime t s).prog.mismatch = s.prog.mismatch ∧
    (setGlycolTime t s).prog.vessel = s.prog.vessel ∧ (setGlycolTime t s).prog.leadHeard = s.prog.leadHeard ∧
    (setGlycolTime t s).prog.lastS = s.prog.lastS ∧ (setGlycolTime t s).prog.secs = s.prog.secs ∧
    (setGlycolTime t s).prog.inBandS = s.prog.inBandS ∧ (setGlycolTime t s).prog.cPrev = s.prog.cPrev ∧
    (setGlycolTime t s).prog.hPrev = s.prog.hPrev ∧ (setGlycolTime t s).prog.cycleOn = s.prog.cycleOn ∧
    (setGlycolTime t s).prog.starveMs = s.prog.starveMs := by
  simp only [setGlycolTime]
  (repeat' split) <;> simp

@[simp] theorem setHeaterTime_keeps (t : Nat) (s : Station) :
    (setHeaterTime t s).prog.pair = s.prog.pair ∧ (setHeaterTime t s).prog.mismatch = s.prog.mismatch ∧
    (setHeaterTime t s).prog.vessel = s.prog.vessel ∧ (setHeaterTime t s).prog.leadHeard = s.prog.leadHeard ∧
    (setHeaterTime t s).prog.lastS = s.prog.lastS ∧ (setHeaterTime t s).prog.secs = s.prog.secs ∧
    (setHeaterTime t s).prog.inBandS = s.prog.inBandS ∧ (setHeaterTime t s).prog.cPrev = s.prog.cPrev ∧
    (setHeaterTime t s).prog.hPrev = s.prog.hPrev ∧ (setHeaterTime t s).prog.cycleOn = s.prog.cycleOn ∧
    (setHeaterTime t s).prog.starveMs = s.prog.starveMs := by
  simp only [setHeaterTime]
  (repeat' split) <;> simp

@[simp] theorem setPairDrive_keeps (s : Station) :
    (setPairDrive s).prog.pair = s.prog.pair ∧ (setPairDrive s).prog.mismatch = s.prog.mismatch ∧
    (setPairDrive s).prog.vessel = s.prog.vessel ∧ (setPairDrive s).prog.leadHeard = s.prog.leadHeard ∧
    (setPairDrive s).prog.lastS = s.prog.lastS ∧ (setPairDrive s).prog.secs = s.prog.secs ∧
    (setPairDrive s).prog.inBandS = s.prog.inBandS ∧ (setPairDrive s).prog.cPrev = s.prog.cPrev ∧
    (setPairDrive s).prog.hPrev = s.prog.hPrev ∧ (setPairDrive s).prog.cycleOn = s.prog.cycleOn ∧
    (setPairDrive s).prog.starveMs = s.prog.starveMs := by
  simp only [setPairDrive]
  (repeat' split) <;> simp

@[simp] theorem chillFalls_keeps (v : Nat) (s : Station) :
    (chillFalls v s).prog.pair = s.prog.pair ∧ (chillFalls v s).prog.mismatch = s.prog.mismatch ∧
    (chillFalls v s).prog.vessel = s.prog.vessel ∧ (chillFalls v s).prog.leadHeard = s.prog.leadHeard ∧
    (chillFalls v s).prog.lastS = s.prog.lastS ∧ (chillFalls v s).prog.secs = s.prog.secs ∧
    (chillFalls v s).prog.inBandS = s.prog.inBandS ∧ (chillFalls v s).prog.cPrev = s.prog.cPrev ∧
    (chillFalls v s).prog.hPrev = s.prog.hPrev ∧ (chillFalls v s).prog.cycleOn = s.prog.cycleOn ∧
    (chillFalls v s).prog.starveMs = s.prog.starveMs := by
  simp only [chillFalls]
  (repeat' split) <;> simp

@[simp] theorem heatFalls_keeps (v : Nat) (s : Station) :
    (heatFalls v s).prog.pair = s.prog.pair ∧ (heatFalls v s).prog.mismatch = s.prog.mismatch ∧
    (heatFalls v s).prog.vessel = s.prog.vessel ∧ (heatFalls v s).prog.leadHeard = s.prog.leadHeard ∧
    (heatFalls v s).prog.lastS = s.prog.lastS ∧ (heatFalls v s).prog.secs = s.prog.secs ∧
    (heatFalls v s).prog.inBandS = s.prog.inBandS ∧ (heatFalls v s).prog.cPrev = s.prog.cPrev ∧
    (heatFalls v s).prog.hPrev = s.prog.hPrev ∧ (heatFalls v s).prog.cycleOn = s.prog.cycleOn ∧
    (heatFalls v s).prog.starveMs = s.prog.starveMs := by
  simp only [heatFalls]
  (repeat' split) <;> simp

@[simp] theorem syncGasTimer_keeps (s : Station) :
    (syncGasTimer s).press.on = s.press.on ∧ (syncGasTimer s).press.pt = s.press.pt ∧
    (syncGasTimer s).press.carbLimited = s.press.carbLimited ∧ (syncGasTimer s).press.vent = s.press.vent ∧
    (syncGasTimer s).press.bandReq = s.press.bandReq ∧ (syncGasTimer s).press.primReq = s.press.primReq ∧
    (syncGasTimer s).press.holdReq = s.press.holdReq ∧ (syncGasTimer s).press.hourClock = s.press.hourClock ∧
    (syncGasTimer s).press.hourCount = s.press.hourCount ∧ (syncGasTimer s).press.acc = s.press.acc ∧
    (syncGasTimer s).press.wholeSpund = s.press.wholeSpund ∧ (syncGasTimer s).press.eqMark = s.press.eqMark ∧
    (syncGasTimer s).press.log = s.press.log ∧ (syncGasTimer s).press.lastMode = s.press.lastMode ∧
    (syncGasTimer s).press.lastP = s.press.lastP ∧ (syncGasTimer s).press.lastT = s.press.lastT ∧
    (syncGasTimer s).press.tHi = s.press.tHi ∧ (syncGasTimer s).press.tLo = s.press.tLo := by
  simp only [syncGasTimer]
  (repeat' split) <;> simp

@[simp] theorem syncGas_keeps (s : Station) :
    (syncGas s).press.on = s.press.on ∧ (syncGas s).press.pt = s.press.pt ∧
    (syncGas s).press.carbLimited = s.press.carbLimited ∧ (syncGas s).press.vent = s.press.vent ∧
    (syncGas s).press.bandReq = s.press.bandReq ∧ (syncGas s).press.primReq = s.press.primReq ∧
    (syncGas s).press.holdReq = s.press.holdReq ∧ (syncGas s).press.hourClock = s.press.hourClock ∧
    (syncGas s).press.hourCount = s.press.hourCount ∧ (syncGas s).press.acc = s.press.acc ∧
    (syncGas s).press.wholeSpund = s.press.wholeSpund ∧ (syncGas s).press.eqMark = s.press.eqMark ∧
    (syncGas s).press.log = s.press.log ∧ (syncGas s).press.lastMode = s.press.lastMode ∧
    (syncGas s).press.lastP = s.press.lastP ∧ (syncGas s).press.lastT = s.press.lastT ∧
    (syncGas s).press.tHi = s.press.tHi ∧ (syncGas s).press.tLo = s.press.tLo := by
  simp only [syncGas]
  (repeat' split) <;> simp

@[simp] theorem handOn_keeps (p : Pool) (a b : Nat) (s : Station) :
    (handOn p a b s).prog.pair = s.prog.pair ∧ (handOn p a b s).prog.mismatch = s.prog.mismatch ∧
    (handOn p a b s).prog.vessel = s.prog.vessel ∧ (handOn p a b s).prog.leadHeard = s.prog.leadHeard ∧
    (handOn p a b s).prog.lastS = s.prog.lastS ∧ (handOn p a b s).prog.secs = s.prog.secs ∧
    (handOn p a b s).prog.inBandS = s.prog.inBandS ∧ (handOn p a b s).prog.cPrev = s.prog.cPrev ∧
    (handOn p a b s).prog.hPrev = s.prog.hPrev ∧ (handOn p a b s).prog.cycleOn = s.prog.cycleOn ∧
    (handOn p a b s).prog.starveMs = s.prog.starveMs ∧ (handOn p a b s).press.on = s.press.on ∧
    (handOn p a b s).press.pt = s.press.pt ∧ (handOn p a b s).press.carbLimited = s.press.carbLimited ∧
    (handOn p a b s).press.vent = s.press.vent ∧ (handOn p a b s).press.bandReq = s.press.bandReq ∧
    (handOn p a b s).press.primReq = s.press.primReq ∧ (handOn p a b s).press.holdReq = s.press.holdReq ∧
    (handOn p a b s).press.hourClock = s.press.hourClock ∧ (handOn p a b s).press.hourCount = s.press.hourCount ∧
    (handOn p a b s).press.acc = s.press.acc ∧ (handOn p a b s).press.wholeSpund = s.press.wholeSpund ∧
    (handOn p a b s).press.eqMark = s.press.eqMark ∧ (handOn p a b s).press.log = s.press.log ∧
    (handOn p a b s).press.lastMode = s.press.lastMode ∧ (handOn p a b s).press.lastP = s.press.lastP ∧
    (handOn p a b s).press.lastT = s.press.lastT ∧ (handOn p a b s).press.tHi = s.press.tHi ∧
    (handOn p a b s).press.tLo = s.press.tLo := by
  simp only [handOn]
  (repeat' split) <;> simp

@[simp] theorem setItem_keeps (p : Pool) (it : PoolItem) (s : Station) :
    (s.setItem p it).pools.peers = s.pools.peers ∧ (s.setItem p it).pools.isolated = s.pools.isolated ∧
    (s.setItem p it).pools.silenceMs = s.pools.silenceMs ∧
    (s.setItem p it).pools.overdrawHold = s.pools.overdrawHold ∧
    (s.setItem p it).pools.backoffMs = s.pools.backoffMs ∧ (s.setItem p it).pools.overdraws = s.pools.overdraws := by
  simp only [Station.setItem]
  (repeat' split) <;> simp

@[simp] theorem applyGrant_keeps (p : Pool) (g : Nat) (s : Station) :
    (applyGrant p g s).prog.pair = s.prog.pair ∧ (applyGrant p g s).prog.mismatch = s.prog.mismatch ∧
    (applyGrant p g s).prog.vessel = s.prog.vessel ∧ (applyGrant p g s).prog.leadHeard = s.prog.leadHeard ∧
    (applyGrant p g s).prog.lastS = s.prog.lastS ∧ (applyGrant p g s).prog.secs = s.prog.secs ∧
    (applyGrant p g s).prog.inBandS = s.prog.inBandS ∧ (applyGrant p g s).prog.cPrev = s.prog.cPrev ∧
    (applyGrant p g s).prog.hPrev = s.prog.hPrev ∧ (applyGrant p g s).prog.cycleOn = s.prog.cycleOn ∧
    (applyGrant p g s).prog.starveMs = s.prog.starveMs ∧ (applyGrant p g s).press.on = s.press.on ∧
    (applyGrant p g s).press.pt = s.press.pt ∧ (applyGrant p g s).press.carbLimited = s.press.carbLimited ∧
    (applyGrant p g s).press.vent = s.press.vent ∧ (applyGrant p g s).press.bandReq = s.press.bandReq ∧
    (applyGrant p g s).press.primReq = s.press.primReq ∧ (applyGrant p g s).press.holdReq = s.press.holdReq ∧
    (applyGrant p g s).press.hourClock = s.press.hourClock ∧ (applyGrant p g s).press.hourCount = s.press.hourCount ∧
    (applyGrant p g s).press.acc = s.press.acc ∧ (applyGrant p g s).press.wholeSpund = s.press.wholeSpund ∧
    (applyGrant p g s).press.eqMark = s.press.eqMark ∧ (applyGrant p g s).press.log = s.press.log ∧
    (applyGrant p g s).press.lastMode = s.press.lastMode ∧ (applyGrant p g s).press.lastP = s.press.lastP ∧
    (applyGrant p g s).press.lastT = s.press.lastT ∧ (applyGrant p g s).press.tHi = s.press.tHi ∧
    (applyGrant p g s).press.tLo = s.press.tLo ∧ (applyGrant p g s).pools.peers = s.pools.peers ∧
    (applyGrant p g s).pools.isolated = s.pools.isolated ∧ (applyGrant p g s).pools.silenceMs = s.pools.silenceMs ∧
    (applyGrant p g s).pools.overdrawHold = s.pools.overdrawHold ∧
    (applyGrant p g s).pools.backoffMs = s.pools.backoffMs ∧ (applyGrant p g s).pools.overdraws = s.pools.overdraws := by
  simp only [applyGrant]
  (repeat' split) <;> simp

@[simp] theorem recompute_keeps (p : Pool) (s : Station) :
    (recompute p s).prog.pair = s.prog.pair ∧ (recompute p s).prog.mismatch = s.prog.mismatch ∧
    (recompute p s).prog.vessel = s.prog.vessel ∧ (recompute p s).prog.leadHeard = s.prog.leadHeard ∧
    (recompute p s).prog.lastS = s.prog.lastS ∧ (recompute p s).prog.secs = s.prog.secs ∧
    (recompute p s).prog.inBandS = s.prog.inBandS ∧ (recompute p s).prog.cPrev = s.prog.cPrev ∧
    (recompute p s).prog.hPrev = s.prog.hPrev ∧ (recompute p s).prog.cycleOn = s.prog.cycleOn ∧
    (recompute p s).prog.starveMs = s.prog.starveMs ∧ (recompute p s).press.on = s.press.on ∧
    (recompute p s).press.pt = s.press.pt ∧ (recompute p s).press.carbLimited = s.press.carbLimited ∧
    (recompute p s).press.vent = s.press.vent ∧ (recompute p s).press.bandReq = s.press.bandReq ∧
    (recompute p s).press.primReq = s.press.primReq ∧ (recompute p s).press.holdReq = s.press.holdReq ∧
    (recompute p s).press.hourClock = s.press.hourClock ∧ (recompute p s).press.hourCount = s.press.hourCount ∧
    (recompute p s).press.acc = s.press.acc ∧ (recompute p s).press.wholeSpund = s.press.wholeSpund ∧
    (recompute p s).press.eqMark = s.press.eqMark ∧ (recompute p s).press.log = s.press.log ∧
    (recompute p s).press.lastMode = s.press.lastMode ∧ (recompute p s).press.lastP = s.press.lastP ∧
    (recompute p s).press.lastT = s.press.lastT ∧ (recompute p s).press.tHi = s.press.tHi ∧
    (recompute p s).press.tLo = s.press.tLo ∧ (recompute p s).pools.peers = s.pools.peers ∧
    (recompute p s).pools.isolated = s.pools.isolated ∧ (recompute p s).pools.silenceMs = s.pools.silenceMs ∧
    (recompute p s).pools.overdrawHold = s.pools.overdrawHold ∧ (recompute p s).pools.backoffMs = s.pools.backoffMs ∧
    (recompute p s).pools.overdraws = s.pools.overdraws := by
  simp only [recompute]
  (repeat' split) <;> simp

@[simp] theorem recomputeAll_keeps (s : Station) :
    (recomputeAll s).prog.pair = s.prog.pair ∧ (recomputeAll s).prog.mismatch = s.prog.mismatch ∧
    (recomputeAll s).prog.vessel = s.prog.vessel ∧ (recomputeAll s).prog.leadHeard = s.prog.leadHeard ∧
    (recomputeAll s).prog.lastS = s.prog.lastS ∧ (recomputeAll s).prog.secs = s.prog.secs ∧
    (recomputeAll s).prog.inBandS = s.prog.inBandS ∧ (recomputeAll s).prog.cPrev = s.prog.cPrev ∧
    (recomputeAll s).prog.hPrev = s.prog.hPrev ∧ (recomputeAll s).prog.cycleOn = s.prog.cycleOn ∧
    (recomputeAll s).prog.starveMs = s.prog.starveMs ∧ (recomputeAll s).press.on = s.press.on ∧
    (recomputeAll s).press.pt = s.press.pt ∧ (recomputeAll s).press.carbLimited = s.press.carbLimited ∧
    (recomputeAll s).press.vent = s.press.vent ∧ (recomputeAll s).press.bandReq = s.press.bandReq ∧
    (recomputeAll s).press.primReq = s.press.primReq ∧ (recomputeAll s).press.holdReq = s.press.holdReq ∧
    (recomputeAll s).press.hourClock = s.press.hourClock ∧ (recomputeAll s).press.hourCount = s.press.hourCount ∧
    (recomputeAll s).press.acc = s.press.acc ∧ (recomputeAll s).press.wholeSpund = s.press.wholeSpund ∧
    (recomputeAll s).press.eqMark = s.press.eqMark ∧ (recomputeAll s).press.log = s.press.log ∧
    (recomputeAll s).press.lastMode = s.press.lastMode ∧ (recomputeAll s).press.lastP = s.press.lastP ∧
    (recomputeAll s).press.lastT = s.press.lastT ∧ (recomputeAll s).press.tHi = s.press.tHi ∧
    (recomputeAll s).press.tLo = s.press.tLo ∧ (recomputeAll s).pools.peers = s.pools.peers ∧
    (recomputeAll s).pools.isolated = s.pools.isolated ∧ (recomputeAll s).pools.silenceMs = s.pools.silenceMs ∧
    (recomputeAll s).pools.overdrawHold = s.pools.overdrawHold ∧
    (recomputeAll s).pools.backoffMs = s.pools.backoffMs ∧ (recomputeAll s).pools.overdraws = s.pools.overdraws := by
  simp only [recomputeAll]
  (repeat' split) <;> simp

@[simp] theorem refreshAll_keeps (s : Station) :
    (refreshAll s).prog.pair = s.prog.pair ∧ (refreshAll s).prog.mismatch = s.prog.mismatch ∧
    (refreshAll s).prog.vessel = s.prog.vessel ∧ (refreshAll s).prog.leadHeard = s.prog.leadHeard ∧
    (refreshAll s).prog.lastS = s.prog.lastS ∧ (refreshAll s).prog.secs = s.prog.secs ∧
    (refreshAll s).prog.inBandS = s.prog.inBandS ∧ (refreshAll s).prog.cPrev = s.prog.cPrev ∧
    (refreshAll s).prog.hPrev = s.prog.hPrev ∧ (refreshAll s).prog.cycleOn = s.prog.cycleOn ∧
    (refreshAll s).prog.starveMs = s.prog.starveMs ∧ (refreshAll s).press.on = s.press.on ∧
    (refreshAll s).press.pt = s.press.pt ∧ (refreshAll s).press.carbLimited = s.press.carbLimited ∧
    (refreshAll s).press.vent = s.press.vent ∧ (refreshAll s).press.bandReq = s.press.bandReq ∧
    (refreshAll s).press.primReq = s.press.primReq ∧ (refreshAll s).press.holdReq = s.press.holdReq ∧
    (refreshAll s).press.hourClock = s.press.hourClock ∧ (refreshAll s).press.hourCount = s.press.hourCount ∧
    (refreshAll s).press.acc = s.press.acc ∧ (refreshAll s).press.wholeSpund = s.press.wholeSpund ∧
    (refreshAll s).press.eqMark = s.press.eqMark ∧ (refreshAll s).press.log = s.press.log ∧
    (refreshAll s).press.lastMode = s.press.lastMode ∧ (refreshAll s).press.lastP = s.press.lastP ∧
    (refreshAll s).press.lastT = s.press.lastT ∧ (refreshAll s).press.tHi = s.press.tHi ∧
    (refreshAll s).press.tLo = s.press.tLo ∧ (refreshAll s).pools.peers = s.pools.peers ∧
    (refreshAll s).pools.isolated = s.pools.isolated ∧ (refreshAll s).pools.silenceMs = s.pools.silenceMs ∧
    (refreshAll s).pools.overdrawHold = s.pools.overdrawHold ∧ (refreshAll s).pools.backoffMs = s.pools.backoffMs ∧
    (refreshAll s).pools.overdraws = s.pools.overdraws := by
  simp only [refreshAll]
  (repeat' split) <;> simp

@[simp] theorem placeClaim_keeps (s : Station) :
    (placeClaim s).link.replies = s.link.replies ∧ (placeClaim s).link.tx = s.link.tx ∧
    (placeClaim s).link.mute = s.link.mute ∧ (placeClaim s).link.consec = s.link.consec ∧
    (placeClaim s).link.drops = s.link.drops ∧ (placeClaim s).link.rx = s.link.rx ∧
    (placeClaim s).link.errored = s.link.errored ∧ (placeClaim s).link.overruns = s.link.overruns ∧
    (placeClaim s).link.idleSeen = s.link.idleSeen := by
  simp only [placeClaim]
  (repeat' split) <;> simp

@[simp] theorem placeRegular_keeps (s : Station) :
    (placeRegular s).link.replies = s.link.replies ∧ (placeRegular s).link.tx = s.link.tx ∧
    (placeRegular s).link.mute = s.link.mute ∧ (placeRegular s).link.consec = s.link.consec ∧
    (placeRegular s).link.drops = s.link.drops ∧ (placeRegular s).link.rx = s.link.rx ∧
    (placeRegular s).link.errored = s.link.errored ∧ (placeRegular s).link.overruns = s.link.overruns ∧
    (placeRegular s).link.idleSeen = s.link.idleSeen := by
  simp only [placeRegular]
  (repeat' split) <;> simp

@[simp] theorem askExtra_keeps (s : Station) :
    (askExtra s).link.replies = s.link.replies ∧ (askExtra s).link.tx = s.link.tx ∧
    (askExtra s).link.mute = s.link.mute ∧ (askExtra s).link.consec = s.link.consec ∧
    (askExtra s).link.drops = s.link.drops ∧ (askExtra s).link.rx = s.link.rx ∧
    (askExtra s).link.errored = s.link.errored ∧ (askExtra s).link.overruns = s.link.overruns ∧
    (askExtra s).link.idleSeen = s.link.idleSeen := by
  simp only [askExtra]
  (repeat' split) <;> simp

@[simp] theorem claimsChanged_keeps (s : Station) :
    (claimsChanged s).link.replies = s.link.replies ∧ (claimsChanged s).link.tx = s.link.tx ∧
    (claimsChanged s).link.mute = s.link.mute ∧ (claimsChanged s).link.consec = s.link.consec ∧
    (claimsChanged s).link.drops = s.link.drops ∧ (claimsChanged s).link.rx = s.link.rx ∧
    (claimsChanged s).link.errored = s.link.errored ∧ (claimsChanged s).link.overruns = s.link.overruns ∧
    (claimsChanged s).link.idleSeen = s.link.idleSeen := by
  simp only [claimsChanged]
  (repeat' split) <;> simp

@[simp] theorem askWhereRaised_keeps (f : Station → Station) (s : Station) :
    (askWhereRaised f s).link.replies = (f s).link.replies ∧ (askWhereRaised f s).link.tx = (f s).link.tx ∧
    (askWhereRaised f s).link.mute = (f s).link.mute ∧ (askWhereRaised f s).link.consec = (f s).link.consec ∧
    (askWhereRaised f s).link.drops = (f s).link.drops ∧ (askWhereRaised f s).link.rx = (f s).link.rx ∧
    (askWhereRaised f s).link.errored = (f s).link.errored ∧
    (askWhereRaised f s).link.overruns = (f s).link.overruns ∧
    (askWhereRaised f s).link.idleSeen = (f s).link.idleSeen := by
  simp only [askWhereRaised]
  (repeat' split) <;> simp

@[simp] theorem setOwn_keeps (p : Pool) (c : Claim) (s : Station) :
    (setOwn p c s).prog.pair = s.prog.pair ∧ (setOwn p c s).prog.mismatch = s.prog.mismatch ∧
    (setOwn p c s).prog.vessel = s.prog.vessel ∧ (setOwn p c s).prog.leadHeard = s.prog.leadHeard ∧
    (setOwn p c s).prog.lastS = s.prog.lastS ∧ (setOwn p c s).prog.secs = s.prog.secs ∧
    (setOwn p c s).prog.inBandS = s.prog.inBandS ∧ (setOwn p c s).prog.cPrev = s.prog.cPrev ∧
    (setOwn p c s).prog.hPrev = s.prog.hPrev ∧ (setOwn p c s).prog.cycleOn = s.prog.cycleOn ∧
    (setOwn p c s).prog.starveMs = s.prog.starveMs ∧ (setOwn p c s).press.on = s.press.on ∧
    (setOwn p c s).press.pt = s.press.pt ∧ (setOwn p c s).press.carbLimited = s.press.carbLimited ∧
    (setOwn p c s).press.vent = s.press.vent ∧ (setOwn p c s).press.bandReq = s.press.bandReq ∧
    (setOwn p c s).press.primReq = s.press.primReq ∧ (setOwn p c s).press.holdReq = s.press.holdReq ∧
    (setOwn p c s).press.hourClock = s.press.hourClock ∧ (setOwn p c s).press.hourCount = s.press.hourCount ∧
    (setOwn p c s).press.acc = s.press.acc ∧ (setOwn p c s).press.wholeSpund = s.press.wholeSpund ∧
    (setOwn p c s).press.eqMark = s.press.eqMark ∧ (setOwn p c s).press.log = s.press.log ∧
    (setOwn p c s).press.lastMode = s.press.lastMode ∧ (setOwn p c s).press.lastP = s.press.lastP ∧
    (setOwn p c s).press.lastT = s.press.lastT ∧ (setOwn p c s).press.tHi = s.press.tHi ∧
    (setOwn p c s).press.tLo = s.press.tLo ∧ (setOwn p c s).pools.peers = s.pools.peers ∧
    (setOwn p c s).pools.isolated = s.pools.isolated ∧ (setOwn p c s).pools.silenceMs = s.pools.silenceMs ∧
    (setOwn p c s).pools.overdrawHold = s.pools.overdrawHold ∧ (setOwn p c s).pools.backoffMs = s.pools.backoffMs ∧
    (setOwn p c s).pools.overdraws = s.pools.overdraws := by
  simp only [setOwn]
  (repeat' split) <;> simp

@[simp] theorem postOne_keeps (p : Pool) (c : Claim) (s : Station) :
    (postOne p c s).prog.pair = s.prog.pair ∧ (postOne p c s).prog.mismatch = s.prog.mismatch ∧
    (postOne p c s).prog.vessel = s.prog.vessel ∧ (postOne p c s).prog.leadHeard = s.prog.leadHeard ∧
    (postOne p c s).prog.lastS = s.prog.lastS ∧ (postOne p c s).prog.secs = s.prog.secs ∧
    (postOne p c s).prog.inBandS = s.prog.inBandS ∧ (postOne p c s).prog.cPrev = s.prog.cPrev ∧
    (postOne p c s).prog.hPrev = s.prog.hPrev ∧ (postOne p c s).prog.cycleOn = s.prog.cycleOn ∧
    (postOne p c s).prog.starveMs = s.prog.starveMs ∧ (postOne p c s).press.on = s.press.on ∧
    (postOne p c s).press.pt = s.press.pt ∧ (postOne p c s).press.carbLimited = s.press.carbLimited ∧
    (postOne p c s).press.vent = s.press.vent ∧ (postOne p c s).press.bandReq = s.press.bandReq ∧
    (postOne p c s).press.primReq = s.press.primReq ∧ (postOne p c s).press.holdReq = s.press.holdReq ∧
    (postOne p c s).press.hourClock = s.press.hourClock ∧ (postOne p c s).press.hourCount = s.press.hourCount ∧
    (postOne p c s).press.acc = s.press.acc ∧ (postOne p c s).press.wholeSpund = s.press.wholeSpund ∧
    (postOne p c s).press.eqMark = s.press.eqMark ∧ (postOne p c s).press.log = s.press.log ∧
    (postOne p c s).press.lastMode = s.press.lastMode ∧ (postOne p c s).press.lastP = s.press.lastP ∧
    (postOne p c s).press.lastT = s.press.lastT ∧ (postOne p c s).press.tHi = s.press.tHi ∧
    (postOne p c s).press.tLo = s.press.tLo ∧ (postOne p c s).pools.peers = s.pools.peers ∧
    (postOne p c s).pools.isolated = s.pools.isolated ∧ (postOne p c s).pools.silenceMs = s.pools.silenceMs ∧
    (postOne p c s).pools.overdrawHold = s.pools.overdrawHold ∧ (postOne p c s).pools.backoffMs = s.pools.backoffMs ∧
    (postOne p c s).pools.overdraws = s.pools.overdraws := by
  simp only [postOne]
  (repeat' split) <;> simp

@[simp] theorem afterPosting_keeps (b : PerPool Claim) (s : Station) :
    (afterPosting b s).link.replies = s.link.replies ∧ (afterPosting b s).link.tx = s.link.tx ∧
    (afterPosting b s).link.mute = s.link.mute ∧ (afterPosting b s).link.consec = s.link.consec ∧
    (afterPosting b s).link.drops = s.link.drops ∧ (afterPosting b s).link.rx = s.link.rx ∧
    (afterPosting b s).link.errored = s.link.errored ∧ (afterPosting b s).link.overruns = s.link.overruns ∧
    (afterPosting b s).link.idleSeen = s.link.idleSeen := by
  simp only [afterPosting]
  (repeat' split) <;> simp

@[simp] theorem postProgram_keeps (h c : Claim) (s : Station) :
    (postProgram h c s).link.replies = s.link.replies ∧ (postProgram h c s).link.tx = s.link.tx ∧
    (postProgram h c s).link.mute = s.link.mute ∧ (postProgram h c s).link.consec = s.link.consec ∧
    (postProgram h c s).link.drops = s.link.drops ∧ (postProgram h c s).link.rx = s.link.rx ∧
    (postProgram h c s).link.errored = s.link.errored ∧ (postProgram h c s).link.overruns = s.link.overruns ∧
    (postProgram h c s).link.idleSeen = s.link.idleSeen ∧ (postProgram h c s).prog.pair = s.prog.pair ∧
    (postProgram h c s).prog.mismatch = s.prog.mismatch ∧ (postProgram h c s).prog.vessel = s.prog.vessel ∧
    (postProgram h c s).prog.leadHeard = s.prog.leadHeard ∧ (postProgram h c s).prog.lastS = s.prog.lastS ∧
    (postProgram h c s).prog.secs = s.prog.secs ∧ (postProgram h c s).prog.inBandS = s.prog.inBandS ∧
    (postProgram h c s).prog.cPrev = s.prog.cPrev ∧ (postProgram h c s).prog.hPrev = s.prog.hPrev ∧
    (postProgram h c s).prog.cycleOn = s.prog.cycleOn ∧ (postProgram h c s).prog.starveMs = s.prog.starveMs ∧
    (postProgram h c s).press.on = s.press.on ∧ (postProgram h c s).press.pt = s.press.pt ∧
    (postProgram h c s).press.carbLimited = s.press.carbLimited ∧ (postProgram h c s).press.vent = s.press.vent ∧
    (postProgram h c s).press.bandReq = s.press.bandReq ∧ (postProgram h c s).press.primReq = s.press.primReq ∧
    (postProgram h c s).press.holdReq = s.press.holdReq ∧ (postProgram h c s).press.hourClock = s.press.hourClock ∧
    (postProgram h c s).press.hourCount = s.press.hourCount ∧ (postProgram h c s).press.acc = s.press.acc ∧
    (postProgram h c s).press.wholeSpund = s.press.wholeSpund ∧ (postProgram h c s).press.eqMark = s.press.eqMark ∧
    (postProgram h c s).press.log = s.press.log ∧ (postProgram h c s).press.lastMode = s.press.lastMode ∧
    (postProgram h c s).press.lastP = s.press.lastP ∧ (postProgram h c s).press.lastT = s.press.lastT ∧
    (postProgram h c s).press.tHi = s.press.tHi ∧ (postProgram h c s).press.tLo = s.press.tLo ∧
    (postProgram h c s).pools.peers = s.pools.peers ∧ (postProgram h c s).pools.isolated = s.pools.isolated ∧
    (postProgram h c s).pools.silenceMs = s.pools.silenceMs ∧
    (postProgram h c s).pools.overdrawHold = s.pools.overdrawHold ∧
    (postProgram h c s).pools.backoffMs = s.pools.backoffMs ∧
    (postProgram h c s).pools.overdraws = s.pools.overdraws := by
  simp only [postProgram]
  (repeat' split) <;> simp

@[simp] theorem postGas_keeps (c : Claim) (s : Station) :
    (postGas c s).link.replies = s.link.replies ∧ (postGas c s).link.tx = s.link.tx ∧
    (postGas c s).link.mute = s.link.mute ∧ (postGas c s).link.consec = s.link.consec ∧
    (postGas c s).link.drops = s.link.drops ∧ (postGas c s).link.rx = s.link.rx ∧
    (postGas c s).link.errored = s.link.errored ∧ (postGas c s).link.overruns = s.link.overruns ∧
    (postGas c s).link.idleSeen = s.link.idleSeen ∧ (postGas c s).prog.pair = s.prog.pair ∧
    (postGas c s).prog.mismatch = s.prog.mismatch ∧ (postGas c s).prog.vessel = s.prog.vessel ∧
    (postGas c s).prog.leadHeard = s.prog.leadHeard ∧ (postGas c s).prog.lastS = s.prog.lastS ∧
    (postGas c s).prog.secs = s.prog.secs ∧ (postGas c s).prog.inBandS = s.prog.inBandS ∧
    (postGas c s).prog.cPrev = s.prog.cPrev ∧ (postGas c s).prog.hPrev = s.prog.hPrev ∧
    (postGas c s).prog.cycleOn = s.prog.cycleOn ∧ (postGas c s).prog.starveMs = s.prog.starveMs ∧
    (postGas c s).press.on = s.press.on ∧ (postGas c s).press.pt = s.press.pt ∧
    (postGas c s).press.carbLimited = s.press.carbLimited ∧ (postGas c s).press.vent = s.press.vent ∧
    (postGas c s).press.bandReq = s.press.bandReq ∧ (postGas c s).press.primReq = s.press.primReq ∧
    (postGas c s).press.holdReq = s.press.holdReq ∧ (postGas c s).press.hourClock = s.press.hourClock ∧
    (postGas c s).press.hourCount = s.press.hourCount ∧ (postGas c s).press.acc = s.press.acc ∧
    (postGas c s).press.wholeSpund = s.press.wholeSpund ∧ (postGas c s).press.eqMark = s.press.eqMark ∧
    (postGas c s).press.log = s.press.log ∧ (postGas c s).press.lastMode = s.press.lastMode ∧
    (postGas c s).press.lastP = s.press.lastP ∧ (postGas c s).press.lastT = s.press.lastT ∧
    (postGas c s).press.tHi = s.press.tHi ∧ (postGas c s).press.tLo = s.press.tLo ∧
    (postGas c s).pools.peers = s.pools.peers ∧ (postGas c s).pools.isolated = s.pools.isolated ∧
    (postGas c s).pools.silenceMs = s.pools.silenceMs ∧ (postGas c s).pools.overdrawHold = s.pools.overdrawHold ∧
    (postGas c s).pools.backoffMs = s.pools.backoffMs ∧ (postGas c s).pools.overdraws = s.pools.overdraws := by
  simp only [postGas]
  (repeat' split) <;> simp

@[simp] theorem postGasNow_keeps (s : Station) :
    (postGasNow s).link.replies = s.link.replies ∧ (postGasNow s).link.tx = s.link.tx ∧
    (postGasNow s).link.mute = s.link.mute ∧ (postGasNow s).link.consec = s.link.consec ∧
    (postGasNow s).link.drops = s.link.drops ∧ (postGasNow s).link.rx = s.link.rx ∧
    (postGasNow s).link.errored = s.link.errored ∧ (postGasNow s).link.overruns = s.link.overruns ∧
    (postGasNow s).link.idleSeen = s.link.idleSeen ∧ (postGasNow s).prog.pair = s.prog.pair ∧
    (postGasNow s).prog.mismatch = s.prog.mismatch ∧ (postGasNow s).prog.vessel = s.prog.vessel ∧
    (postGasNow s).prog.leadHeard = s.prog.leadHeard ∧ (postGasNow s).prog.lastS = s.prog.lastS ∧
    (postGasNow s).prog.secs = s.prog.secs ∧ (postGasNow s).prog.inBandS = s.prog.inBandS ∧
    (postGasNow s).prog.cPrev = s.prog.cPrev ∧ (postGasNow s).prog.hPrev = s.prog.hPrev ∧
    (postGasNow s).prog.cycleOn = s.prog.cycleOn ∧ (postGasNow s).prog.starveMs = s.prog.starveMs ∧
    (postGasNow s).press.on = s.press.on ∧ (postGasNow s).press.pt = s.press.pt ∧
    (postGasNow s).press.carbLimited = s.press.carbLimited ∧ (postGasNow s).press.vent = s.press.vent ∧
    (postGasNow s).press.bandReq = s.press.bandReq ∧ (postGasNow s).press.primReq = s.press.primReq ∧
    (postGasNow s).press.holdReq = s.press.holdReq ∧ (postGasNow s).press.hourClock = s.press.hourClock ∧
    (postGasNow s).press.hourCount = s.press.hourCount ∧ (postGasNow s).press.acc = s.press.acc ∧
    (postGasNow s).press.wholeSpund = s.press.wholeSpund ∧ (postGasNow s).press.eqMark = s.press.eqMark ∧
    (postGasNow s).press.log = s.press.log ∧ (postGasNow s).press.lastMode = s.press.lastMode ∧
    (postGasNow s).press.lastP = s.press.lastP ∧ (postGasNow s).press.lastT = s.press.lastT ∧
    (postGasNow s).press.tHi = s.press.tHi ∧ (postGasNow s).press.tLo = s.press.tLo ∧
    (postGasNow s).pools.peers = s.pools.peers ∧ (postGasNow s).pools.isolated = s.pools.isolated ∧
    (postGasNow s).pools.silenceMs = s.pools.silenceMs ∧ (postGasNow s).pools.overdrawHold = s.pools.overdrawHold ∧
    (postGasNow s).pools.backoffMs = s.pools.backoffMs ∧ (postGasNow s).pools.overdraws = s.pools.overdraws := by
  simp only [postGasNow]
  (repeat' split) <;> simp

@[simp] theorem setVent_keeps (v : Bool) (s : Station) :
    (setVent v s).link.replies = s.link.replies ∧ (setVent v s).link.tx = s.link.tx ∧
    (setVent v s).link.mute = s.link.mute ∧ (setVent v s).link.consec = s.link.consec ∧
    (setVent v s).link.drops = s.link.drops ∧ (setVent v s).link.rx = s.link.rx ∧
    (setVent v s).link.errored = s.link.errored ∧ (setVent v s).link.overruns = s.link.overruns ∧
    (setVent v s).link.idleSeen = s.link.idleSeen ∧ (setVent v s).prog.pair = s.prog.pair ∧
    (setVent v s).prog.mismatch = s.prog.mismatch ∧ (setVent v s).prog.vessel = s.prog.vessel ∧
    (setVent v s).prog.leadHeard = s.prog.leadHeard ∧ (setVent v s).prog.lastS = s.prog.lastS ∧
    (setVent v s).prog.secs = s.prog.secs ∧ (setVent v s).prog.inBandS = s.prog.inBandS ∧
    (setVent v s).prog.cPrev = s.prog.cPrev ∧ (setVent v s).prog.hPrev = s.prog.hPrev ∧
    (setVent v s).prog.cycleOn = s.prog.cycleOn ∧ (setVent v s).prog.starveMs = s.prog.starveMs ∧
    (setVent v s).pools.peers = s.pools.peers ∧ (setVent v s).pools.isolated = s.pools.isolated ∧
    (setVent v s).pools.silenceMs = s.pools.silenceMs ∧ (setVent v s).pools.overdrawHold = s.pools.overdrawHold ∧
    (setVent v s).pools.backoffMs = s.pools.backoffMs ∧ (setVent v s).pools.overdraws = s.pools.overdraws ∧
    (setVent v s).press.on = s.press.on ∧ (setVent v s).press.pt = s.press.pt ∧
    (setVent v s).press.carbLimited = s.press.carbLimited ∧ (setVent v s).press.primReq = s.press.primReq ∧
    (setVent v s).press.holdReq = s.press.holdReq ∧ (setVent v s).press.hourClock = s.press.hourClock ∧
    (setVent v s).press.hourCount = s.press.hourCount ∧ (setVent v s).press.acc = s.press.acc ∧
    (setVent v s).press.wholeSpund = s.press.wholeSpund ∧ (setVent v s).press.eqMark = s.press.eqMark ∧
    (setVent v s).press.log = s.press.log ∧ (setVent v s).press.lastMode = s.press.lastMode ∧
    (setVent v s).press.lastP = s.press.lastP ∧ (setVent v s).press.lastT = s.press.lastT ∧
    (setVent v s).press.tHi = s.press.tHi ∧ (setVent v s).press.tLo = s.press.tLo := by
  simp only [setVent]
  (repeat' split) <;> simp

@[simp] theorem decideNow_keeps (v w r : Bool) (s : Station) :
    (decideNow v w r s).link.replies = s.link.replies ∧ (decideNow v w r s).link.tx = s.link.tx ∧
    (decideNow v w r s).link.mute = s.link.mute ∧ (decideNow v w r s).link.consec = s.link.consec ∧
    (decideNow v w r s).link.drops = s.link.drops ∧ (decideNow v w r s).link.rx = s.link.rx ∧
    (decideNow v w r s).link.errored = s.link.errored ∧ (decideNow v w r s).link.overruns = s.link.overruns ∧
    (decideNow v w r s).link.idleSeen = s.link.idleSeen ∧ (decideNow v w r s).prog.pair = s.prog.pair ∧
    (decideNow v w r s).prog.mismatch = s.prog.mismatch ∧ (decideNow v w r s).prog.vessel = s.prog.vessel ∧
    (decideNow v w r s).prog.leadHeard = s.prog.leadHeard ∧ (decideNow v w r s).prog.lastS = s.prog.lastS ∧
    (decideNow v w r s).prog.secs = s.prog.secs ∧ (decideNow v w r s).prog.inBandS = s.prog.inBandS ∧
    (decideNow v w r s).prog.cPrev = s.prog.cPrev ∧ (decideNow v w r s).prog.hPrev = s.prog.hPrev ∧
    (decideNow v w r s).prog.cycleOn = s.prog.cycleOn ∧ (decideNow v w r s).prog.starveMs = s.prog.starveMs ∧
    (decideNow v w r s).pools.peers = s.pools.peers ∧ (decideNow v w r s).pools.isolated = s.pools.isolated ∧
    (decideNow v w r s).pools.silenceMs = s.pools.silenceMs ∧
    (decideNow v w r s).pools.overdrawHold = s.pools.overdrawHold ∧
    (decideNow v w r s).pools.backoffMs = s.pools.backoffMs ∧
    (decideNow v w r s).pools.overdraws = s.pools.overdraws ∧ (decideNow v w r s).press.on = s.press.on ∧
    (decideNow v w r s).press.pt = s.press.pt ∧ (decideNow v w r s).press.carbLimited = s.press.carbLimited ∧
    (decideNow v w r s).press.primReq = s.press.primReq ∧ (decideNow v w r s).press.holdReq = s.press.holdReq ∧
    (decideNow v w r s).press.hourClock = s.press.hourClock ∧
    (decideNow v w r s).press.hourCount = s.press.hourCount ∧ (decideNow v w r s).press.acc = s.press.acc ∧
    (decideNow v w r s).press.wholeSpund = s.press.wholeSpund ∧ (decideNow v w r s).press.eqMark = s.press.eqMark ∧
    (decideNow v w r s).press.log = s.press.log ∧ (decideNow v w r s).press.lastMode = s.press.lastMode ∧
    (decideNow v w r s).press.lastP = s.press.lastP ∧ (decideNow v w r s).press.lastT = s.press.lastT ∧
    (decideNow v w r s).press.tHi = s.press.tHi ∧ (decideNow v w r s).press.tLo = s.press.tLo := by
  simp only [decideNow]
  (repeat' split) <;> simp

@[simp] theorem decideAsIs_keeps (s : Station) :
    (decideAsIs s).link.replies = s.link.replies ∧ (decideAsIs s).link.tx = s.link.tx ∧
    (decideAsIs s).link.mute = s.link.mute ∧ (decideAsIs s).link.consec = s.link.consec ∧
    (decideAsIs s).link.drops = s.link.drops ∧ (decideAsIs s).link.rx = s.link.rx ∧
    (decideAsIs s).link.errored = s.link.errored ∧ (decideAsIs s).link.overruns = s.link.overruns ∧
    (decideAsIs s).link.idleSeen = s.link.idleSeen ∧ (decideAsIs s).prog.pair = s.prog.pair ∧
    (decideAsIs s).prog.mismatch = s.prog.mismatch ∧ (decideAsIs s).prog.vessel = s.prog.vessel ∧
    (decideAsIs s).prog.leadHeard = s.prog.leadHeard ∧ (decideAsIs s).prog.lastS = s.prog.lastS ∧
    (decideAsIs s).prog.secs = s.prog.secs ∧ (decideAsIs s).prog.inBandS = s.prog.inBandS ∧
    (decideAsIs s).prog.cPrev = s.prog.cPrev ∧ (decideAsIs s).prog.hPrev = s.prog.hPrev ∧
    (decideAsIs s).prog.cycleOn = s.prog.cycleOn ∧ (decideAsIs s).prog.starveMs = s.prog.starveMs ∧
    (decideAsIs s).pools.peers = s.pools.peers ∧ (decideAsIs s).pools.isolated = s.pools.isolated ∧
    (decideAsIs s).pools.silenceMs = s.pools.silenceMs ∧ (decideAsIs s).pools.overdrawHold = s.pools.overdrawHold ∧
    (decideAsIs s).pools.backoffMs = s.pools.backoffMs ∧ (decideAsIs s).pools.overdraws = s.pools.overdraws ∧
    (decideAsIs s).press.on = s.press.on ∧ (decideAsIs s).press.pt = s.press.pt ∧
    (decideAsIs s).press.carbLimited = s.press.carbLimited ∧ (decideAsIs s).press.primReq = s.press.primReq ∧
    (decideAsIs s).press.holdReq = s.press.holdReq ∧ (decideAsIs s).press.hourClock = s.press.hourClock ∧
    (decideAsIs s).press.hourCount = s.press.hourCount ∧ (decideAsIs s).press.acc = s.press.acc ∧
    (decideAsIs s).press.wholeSpund = s.press.wholeSpund ∧ (decideAsIs s).press.eqMark = s.press.eqMark ∧
    (decideAsIs s).press.log = s.press.log ∧ (decideAsIs s).press.lastMode = s.press.lastMode ∧
    (decideAsIs s).press.lastP = s.press.lastP ∧ (decideAsIs s).press.lastT = s.press.lastT ∧
    (decideAsIs s).press.tHi = s.press.tHi ∧ (decideAsIs s).press.tLo = s.press.tLo := by
  simp only [decideAsIs]
  (repeat' split) <;> simp

@[simp] theorem gasDecided_keeps (f : Station → Station) (s : Station) :
    (gasDecided f s).link.replies = (f s).link.replies ∧ (gasDecided f s).link.tx = (f s).link.tx ∧
    (gasDecided f s).link.mute = (f s).link.mute ∧ (gasDecided f s).link.consec = (f s).link.consec ∧
    (gasDecided f s).link.drops = (f s).link.drops ∧ (gasDecided f s).link.rx = (f s).link.rx ∧
    (gasDecided f s).link.errored = (f s).link.errored ∧ (gasDecided f s).link.overruns = (f s).link.overruns ∧
    (gasDecided f s).link.idleSeen = (f s).link.idleSeen ∧ (gasDecided f s).prog.pair = (f s).prog.pair ∧
    (gasDecided f s).prog.mismatch = (f s).prog.mismatch ∧ (gasDecided f s).prog.vessel = (f s).prog.vessel ∧
    (gasDecided f s).prog.leadHeard = (f s).prog.leadHeard ∧ (gasDecided f s).prog.lastS = (f s).prog.lastS ∧
    (gasDecided f s).prog.secs = (f s).prog.secs ∧ (gasDecided f s).prog.inBandS = (f s).prog.inBandS ∧
    (gasDecided f s).prog.cPrev = (f s).prog.cPrev ∧ (gasDecided f s).prog.hPrev = (f s).prog.hPrev ∧
    (gasDecided f s).prog.cycleOn = (f s).prog.cycleOn ∧ (gasDecided f s).prog.starveMs = (f s).prog.starveMs ∧
    (gasDecided f s).pools.peers = (f s).pools.peers ∧ (gasDecided f s).pools.isolated = (f s).pools.isolated ∧
    (gasDecided f s).pools.silenceMs = (f s).pools.silenceMs ∧
    (gasDecided f s).pools.overdrawHold = (f s).pools.overdrawHold ∧
    (gasDecided f s).pools.backoffMs = (f s).pools.backoffMs ∧
    (gasDecided f s).pools.overdraws = (f s).pools.overdraws ∧ (gasDecided f s).press.on = (f s).press.on ∧
    (gasDecided f s).press.pt = (f s).press.pt ∧ (gasDecided f s).press.carbLimited = (f s).press.carbLimited ∧
    (gasDecided f s).press.primReq = (f s).press.primReq ∧ (gasDecided f s).press.holdReq = (f s).press.holdReq ∧
    (gasDecided f s).press.hourClock = (f s).press.hourClock ∧
    (gasDecided f s).press.hourCount = (f s).press.hourCount ∧ (gasDecided f s).press.acc = (f s).press.acc ∧
    (gasDecided f s).press.wholeSpund = (f s).press.wholeSpund ∧
    (gasDecided f s).press.eqMark = (f s).press.eqMark ∧ (gasDecided f s).press.log = (f s).press.log ∧
    (gasDecided f s).press.lastMode = (f s).press.lastMode ∧ (gasDecided f s).press.lastP = (f s).press.lastP ∧
    (gasDecided f s).press.lastT = (f s).press.lastT ∧ (gasDecided f s).press.tHi = (f s).press.tHi ∧
    (gasDecided f s).press.tLo = (f s).press.tLo := by
  simp only [gasDecided]
  (repeat' split) <;> simp

@[simp] theorem reown_keeps (s : Station) :
    (reown s).link.replies = s.link.replies ∧ (reown s).link.tx = s.link.tx ∧ (reown s).link.mute = s.link.mute ∧
    (reown s).link.consec = s.link.consec ∧ (reown s).link.drops = s.link.drops ∧ (reown s).link.rx = s.link.rx ∧
    (reown s).link.errored = s.link.errored ∧ (reown s).link.overruns = s.link.overruns ∧
    (reown s).link.idleSeen = s.link.idleSeen ∧ (reown s).prog.pair = s.prog.pair ∧
    (reown s).prog.mismatch = s.prog.mismatch ∧ (reown s).prog.vessel = s.prog.vessel ∧
    (reown s).prog.leadHeard = s.prog.leadHeard ∧ (reown s).prog.lastS = s.prog.lastS ∧
    (reown s).prog.secs = s.prog.secs ∧ (reown s).prog.inBandS = s.prog.inBandS ∧
    (reown s).prog.cPrev = s.prog.cPrev ∧ (reown s).prog.hPrev = s.prog.hPrev ∧
    (reown s).prog.cycleOn = s.prog.cycleOn ∧ (reown s).prog.starveMs = s.prog.starveMs ∧
    (reown s).press.on = s.press.on ∧ (reown s).press.pt = s.press.pt ∧
    (reown s).press.carbLimited = s.press.carbLimited ∧ (reown s).press.vent = s.press.vent ∧
    (reown s).press.bandReq = s.press.bandReq ∧ (reown s).press.primReq = s.press.primReq ∧
    (reown s).press.holdReq = s.press.holdReq ∧ (reown s).press.hourClock = s.press.hourClock ∧
    (reown s).press.hourCount = s.press.hourCount ∧ (reown s).press.acc = s.press.acc ∧
    (reown s).press.wholeSpund = s.press.wholeSpund ∧ (reown s).press.eqMark = s.press.eqMark ∧
    (reown s).press.log = s.press.log ∧ (reown s).press.lastMode = s.press.lastMode ∧
    (reown s).press.lastP = s.press.lastP ∧ (reown s).press.lastT = s.press.lastT ∧
    (reown s).press.tHi = s.press.tHi ∧ (reown s).press.tLo = s.press.tLo ∧ (reown s).pools.peers = s.pools.peers ∧
    (reown s).pools.isolated = s.pools.isolated ∧ (reown s).pools.silenceMs = s.pools.silenceMs ∧
    (reown s).pools.overdrawHold = s.pools.overdrawHold ∧ (reown s).pools.backoffMs = s.pools.backoffMs ∧
    (reown s).pools.overdraws = s.pools.overdraws := by
  simp only [reown]
  (repeat' split) <;> simp

@[simp] theorem regrant_keeps (s : Station) :
    (regrant s).link.replies = s.link.replies ∧ (regrant s).link.tx = s.link.tx ∧
    (regrant s).link.mute = s.link.mute ∧ (regrant s).link.consec = s.link.consec ∧
    (regrant s).link.drops = s.link.drops ∧ (regrant s).link.rx = s.link.rx ∧
    (regrant s).link.errored = s.link.errored ∧ (regrant s).link.overruns = s.link.overruns ∧
    (regrant s).link.idleSeen = s.link.idleSeen ∧ (regrant s).prog.pair = s.prog.pair ∧
    (regrant s).prog.mismatch = s.prog.mismatch ∧ (regrant s).prog.vessel = s.prog.vessel ∧
    (regrant s).prog.leadHeard = s.prog.leadHeard ∧ (regrant s).prog.lastS = s.prog.lastS ∧
    (regrant s).prog.secs = s.prog.secs ∧ (regrant s).prog.inBandS = s.prog.inBandS ∧
    (regrant s).prog.cPrev = s.prog.cPrev ∧ (regrant s).prog.hPrev = s.prog.hPrev ∧
    (regrant s).prog.cycleOn = s.prog.cycleOn ∧ (regrant s).prog.starveMs = s.prog.starveMs ∧
    (regrant s).pools.peers = s.pools.peers ∧ (regrant s).pools.isolated = s.pools.isolated ∧
    (regrant s).pools.silenceMs = s.pools.silenceMs ∧ (regrant s).pools.overdrawHold = s.pools.overdrawHold ∧
    (regrant s).pools.backoffMs = s.pools.backoffMs ∧ (regrant s).pools.overdraws = s.pools.overdraws ∧
    (regrant s).press.on = s.press.on ∧ (regrant s).press.pt = s.press.pt ∧
    (regrant s).press.carbLimited = s.press.carbLimited ∧ (regrant s).press.primReq = s.press.primReq ∧
    (regrant s).press.holdReq = s.press.holdReq ∧ (regrant s).press.hourClock = s.press.hourClock ∧
    (regrant s).press.hourCount = s.press.hourCount ∧ (regrant s).press.acc = s.press.acc ∧
    (regrant s).press.wholeSpund = s.press.wholeSpund ∧ (regrant s).press.eqMark = s.press.eqMark ∧
    (regrant s).press.log = s.press.log ∧ (regrant s).press.lastMode = s.press.lastMode ∧
    (regrant s).press.lastP = s.press.lastP ∧ (regrant s).press.lastT = s.press.lastT ∧
    (regrant s).press.tHi = s.press.tHi ∧ (regrant s).press.tLo = s.press.tLo := by
  simp only [regrant]
  (repeat' split) <;> simp

@[simp] theorem refreshGrants_keeps (s : Station) :
    (refreshGrants s).link.replies = s.link.replies ∧ (refreshGrants s).link.tx = s.link.tx ∧
    (refreshGrants s).link.mute = s.link.mute ∧ (refreshGrants s).link.consec = s.link.consec ∧
    (refreshGrants s).link.drops = s.link.drops ∧ (refreshGrants s).link.rx = s.link.rx ∧
    (refreshGrants s).link.errored = s.link.errored ∧ (refreshGrants s).link.overruns = s.link.overruns ∧
    (refreshGrants s).link.idleSeen = s.link.idleSeen ∧ (refreshGrants s).prog.pair = s.prog.pair ∧
    (refreshGrants s).prog.mismatch = s.prog.mismatch ∧ (refreshGrants s).prog.vessel = s.prog.vessel ∧
    (refreshGrants s).prog.leadHeard = s.prog.leadHeard ∧ (refreshGrants s).prog.lastS = s.prog.lastS ∧
    (refreshGrants s).prog.secs = s.prog.secs ∧ (refreshGrants s).prog.inBandS = s.prog.inBandS ∧
    (refreshGrants s).prog.cPrev = s.prog.cPrev ∧ (refreshGrants s).prog.hPrev = s.prog.hPrev ∧
    (refreshGrants s).prog.cycleOn = s.prog.cycleOn ∧ (refreshGrants s).prog.starveMs = s.prog.starveMs ∧
    (refreshGrants s).pools.peers = s.pools.peers ∧ (refreshGrants s).pools.isolated = s.pools.isolated ∧
    (refreshGrants s).pools.silenceMs = s.pools.silenceMs ∧
    (refreshGrants s).pools.overdrawHold = s.pools.overdrawHold ∧
    (refreshGrants s).pools.backoffMs = s.pools.backoffMs ∧ (refreshGrants s).pools.overdraws = s.pools.overdraws ∧
    (refreshGrants s).press.on = s.press.on ∧ (refreshGrants s).press.pt = s.press.pt ∧
    (refreshGrants s).press.carbLimited = s.press.carbLimited ∧ (refreshGrants s).press.primReq = s.press.primReq ∧
    (refreshGrants s).press.holdReq = s.press.holdReq ∧ (refreshGrants s).press.hourClock = s.press.hourClock ∧
    (refreshGrants s).press.hourCount = s.press.hourCount ∧ (refreshGrants s).press.acc = s.press.acc ∧
    (refreshGrants s).press.wholeSpund = s.press.wholeSpund ∧ (refreshGrants s).press.eqMark = s.press.eqMark ∧
    (refreshGrants s).press.log = s.press.log ∧ (refreshGrants s).press.lastMode = s.press.lastMode ∧
    (refreshGrants s).press.lastP = s.press.lastP ∧ (refreshGrants s).press.lastT = s.press.lastT ∧
    (refreshGrants s).press.tHi = s.press.tHi ∧ (refreshGrants s).press.tLo = s.press.tLo := by
  simp only [refreshGrants]
  (repeat' split) <;> simp

@[simp] theorem settleOut_keeps (p : Pool) (s : Station) :
    (settleOut p s).prog.pair = s.prog.pair ∧ (settleOut p s).prog.mismatch = s.prog.mismatch ∧
    (settleOut p s).prog.vessel = s.prog.vessel ∧ (settleOut p s).prog.leadHeard = s.prog.leadHeard ∧
    (settleOut p s).prog.lastS = s.prog.lastS ∧ (settleOut p s).prog.secs = s.prog.secs ∧
    (settleOut p s).prog.inBandS = s.prog.inBandS ∧ (settleOut p s).prog.cPrev = s.prog.cPrev ∧
    (settleOut p s).prog.hPrev = s.prog.hPrev ∧ (settleOut p s).prog.cycleOn = s.prog.cycleOn ∧
    (settleOut p s).prog.starveMs = s.prog.starveMs ∧ (settleOut p s).press.on = s.press.on ∧
    (settleOut p s).press.pt = s.press.pt ∧ (settleOut p s).press.carbLimited = s.press.carbLimited ∧
    (settleOut p s).press.primReq = s.press.primReq ∧ (settleOut p s).press.holdReq = s.press.holdReq ∧
    (settleOut p s).press.hourClock = s.press.hourClock ∧ (settleOut p s).press.hourCount = s.press.hourCount ∧
    (settleOut p s).press.acc = s.press.acc ∧ (settleOut p s).press.wholeSpund = s.press.wholeSpund ∧
    (settleOut p s).press.eqMark = s.press.eqMark ∧ (settleOut p s).press.log = s.press.log ∧
    (settleOut p s).press.lastMode = s.press.lastMode ∧ (settleOut p s).press.lastP = s.press.lastP ∧
    (settleOut p s).press.lastT = s.press.lastT ∧ (settleOut p s).press.tHi = s.press.tHi ∧
    (settleOut p s).press.tLo = s.press.tLo ∧ (settleOut p s).pools.peers = s.pools.peers ∧
    (settleOut p s).pools.isolated = s.pools.isolated ∧ (settleOut p s).pools.silenceMs = s.pools.silenceMs ∧
    (settleOut p s).pools.overdrawHold = s.pools.overdrawHold ∧
    (settleOut p s).pools.backoffMs = s.pools.backoffMs ∧ (settleOut p s).pools.overdraws = s.pools.overdraws := by
  simp only [settleOut]
  (repeat' split) <;> simp

@[simp] theorem silenceOut_keeps (s : Station) :
    (silenceOut s).prog.pair = s.prog.pair ∧ (silenceOut s).prog.mismatch = s.prog.mismatch ∧
    (silenceOut s).prog.vessel = s.prog.vessel ∧ (silenceOut s).prog.leadHeard = s.prog.leadHeard ∧
    (silenceOut s).prog.lastS = s.prog.lastS ∧ (silenceOut s).prog.secs = s.prog.secs ∧
    (silenceOut s).prog.inBandS = s.prog.inBandS ∧ (silenceOut s).prog.cPrev = s.prog.cPrev ∧
    (silenceOut s).prog.hPrev = s.prog.hPrev ∧ (silenceOut s).prog.cycleOn = s.prog.cycleOn ∧
    (silenceOut s).prog.starveMs = s.prog.starveMs ∧ (silenceOut s).press.on = s.press.on ∧
    (silenceOut s).press.pt = s.press.pt ∧ (silenceOut s).press.carbLimited = s.press.carbLimited ∧
    (silenceOut s).press.primReq = s.press.primReq ∧ (silenceOut s).press.holdReq = s.press.holdReq ∧
    (silenceOut s).press.hourClock = s.press.hourClock ∧ (silenceOut s).press.hourCount = s.press.hourCount ∧
    (silenceOut s).press.acc = s.press.acc ∧ (silenceOut s).press.wholeSpund = s.press.wholeSpund ∧
    (silenceOut s).press.eqMark = s.press.eqMark ∧ (silenceOut s).press.log = s.press.log ∧
    (silenceOut s).press.lastMode = s.press.lastMode ∧ (silenceOut s).press.lastP = s.press.lastP ∧
    (silenceOut s).press.lastT = s.press.lastT ∧ (silenceOut s).press.tHi = s.press.tHi ∧
    (silenceOut s).press.tLo = s.press.tLo := by
  simp only [silenceOut]
  (repeat' split) <;> simp

@[simp] theorem linkAlive_keeps (s : Station) :
    (linkAlive s).link.replies = s.link.replies ∧ (linkAlive s).link.tx = s.link.tx ∧
    (linkAlive s).link.mute = s.link.mute ∧ (linkAlive s).link.consec = s.link.consec ∧
    (linkAlive s).link.drops = s.link.drops ∧ (linkAlive s).link.rx = s.link.rx ∧
    (linkAlive s).link.errored = s.link.errored ∧ (linkAlive s).link.overruns = s.link.overruns ∧
    (linkAlive s).link.idleSeen = s.link.idleSeen ∧ (linkAlive s).prog.pair = s.prog.pair ∧
    (linkAlive s).prog.mismatch = s.prog.mismatch ∧ (linkAlive s).prog.vessel = s.prog.vessel ∧
    (linkAlive s).prog.leadHeard = s.prog.leadHeard ∧ (linkAlive s).prog.lastS = s.prog.lastS ∧
    (linkAlive s).prog.secs = s.prog.secs ∧ (linkAlive s).prog.inBandS = s.prog.inBandS ∧
    (linkAlive s).prog.cPrev = s.prog.cPrev ∧ (linkAlive s).prog.hPrev = s.prog.hPrev ∧
    (linkAlive s).prog.cycleOn = s.prog.cycleOn ∧ (linkAlive s).prog.starveMs = s.prog.starveMs ∧
    (linkAlive s).press.on = s.press.on ∧ (linkAlive s).press.pt = s.press.pt ∧
    (linkAlive s).press.carbLimited = s.press.carbLimited ∧ (linkAlive s).press.primReq = s.press.primReq ∧
    (linkAlive s).press.holdReq = s.press.holdReq ∧ (linkAlive s).press.hourClock = s.press.hourClock ∧
    (linkAlive s).press.hourCount = s.press.hourCount ∧ (linkAlive s).press.acc = s.press.acc ∧
    (linkAlive s).press.wholeSpund = s.press.wholeSpund ∧ (linkAlive s).press.eqMark = s.press.eqMark ∧
    (linkAlive s).press.log = s.press.log ∧ (linkAlive s).press.lastMode = s.press.lastMode ∧
    (linkAlive s).press.lastP = s.press.lastP ∧ (linkAlive s).press.lastT = s.press.lastT ∧
    (linkAlive s).press.tHi = s.press.tHi ∧ (linkAlive s).press.tLo = s.press.tLo := by
  simp only [linkAlive]
  (repeat' split) <;> simp

@[simp] theorem overdrawOn_keeps (s : Station) :
    (overdrawOn s).prog.pair = s.prog.pair ∧ (overdrawOn s).prog.mismatch = s.prog.mismatch ∧
    (overdrawOn s).prog.vessel = s.prog.vessel ∧ (overdrawOn s).prog.leadHeard = s.prog.leadHeard ∧
    (overdrawOn s).prog.lastS = s.prog.lastS ∧ (overdrawOn s).prog.secs = s.prog.secs ∧
    (overdrawOn s).prog.inBandS = s.prog.inBandS ∧ (overdrawOn s).prog.cPrev = s.prog.cPrev ∧
    (overdrawOn s).prog.hPrev = s.prog.hPrev ∧ (overdrawOn s).prog.cycleOn = s.prog.cycleOn ∧
    (overdrawOn s).prog.starveMs = s.prog.starveMs ∧ (overdrawOn s).press.on = s.press.on ∧
    (overdrawOn s).press.pt = s.press.pt ∧ (overdrawOn s).press.carbLimited = s.press.carbLimited ∧
    (overdrawOn s).press.vent = s.press.vent ∧ (overdrawOn s).press.bandReq = s.press.bandReq ∧
    (overdrawOn s).press.primReq = s.press.primReq ∧ (overdrawOn s).press.holdReq = s.press.holdReq ∧
    (overdrawOn s).press.hourClock = s.press.hourClock ∧ (overdrawOn s).press.hourCount = s.press.hourCount ∧
    (overdrawOn s).press.acc = s.press.acc ∧ (overdrawOn s).press.wholeSpund = s.press.wholeSpund ∧
    (overdrawOn s).press.eqMark = s.press.eqMark ∧ (overdrawOn s).press.log = s.press.log ∧
    (overdrawOn s).press.lastMode = s.press.lastMode ∧ (overdrawOn s).press.lastP = s.press.lastP ∧
    (overdrawOn s).press.lastT = s.press.lastT ∧ (overdrawOn s).press.tHi = s.press.tHi ∧
    (overdrawOn s).press.tLo = s.press.tLo := by
  simp only [overdrawOn]
  (repeat' split) <;> simp

@[simp] theorem backoffOut_keeps (s : Station) :
    (backoffOut s).link.replies = s.link.replies ∧ (backoffOut s).link.tx = s.link.tx ∧
    (backoffOut s).link.mute = s.link.mute ∧ (backoffOut s).link.consec = s.link.consec ∧
    (backoffOut s).link.drops = s.link.drops ∧ (backoffOut s).link.rx = s.link.rx ∧
    (backoffOut s).link.errored = s.link.errored ∧ (backoffOut s).link.overruns = s.link.overruns ∧
    (backoffOut s).link.idleSeen = s.link.idleSeen ∧ (backoffOut s).prog.pair = s.prog.pair ∧
    (backoffOut s).prog.mismatch = s.prog.mismatch ∧ (backoffOut s).prog.vessel = s.prog.vessel ∧
    (backoffOut s).prog.leadHeard = s.prog.leadHeard ∧ (backoffOut s).prog.lastS = s.prog.lastS ∧
    (backoffOut s).prog.secs = s.prog.secs ∧ (backoffOut s).prog.inBandS = s.prog.inBandS ∧
    (backoffOut s).prog.cPrev = s.prog.cPrev ∧ (backoffOut s).prog.hPrev = s.prog.hPrev ∧
    (backoffOut s).prog.cycleOn = s.prog.cycleOn ∧ (backoffOut s).prog.starveMs = s.prog.starveMs ∧
    (backoffOut s).press.on = s.press.on ∧ (backoffOut s).press.pt = s.press.pt ∧
    (backoffOut s).press.carbLimited = s.press.carbLimited ∧ (backoffOut s).press.vent = s.press.vent ∧
    (backoffOut s).press.bandReq = s.press.bandReq ∧ (backoffOut s).press.primReq = s.press.primReq ∧
    (backoffOut s).press.holdReq = s.press.holdReq ∧ (backoffOut s).press.hourClock = s.press.hourClock ∧
    (backoffOut s).press.hourCount = s.press.hourCount ∧ (backoffOut s).press.acc = s.press.acc ∧
    (backoffOut s).press.wholeSpund = s.press.wholeSpund ∧ (backoffOut s).press.eqMark = s.press.eqMark ∧
    (backoffOut s).press.log = s.press.log ∧ (backoffOut s).press.lastMode = s.press.lastMode ∧
    (backoffOut s).press.lastP = s.press.lastP ∧ (backoffOut s).press.lastT = s.press.lastT ∧
    (backoffOut s).press.tHi = s.press.tHi ∧ (backoffOut s).press.tLo = s.press.tLo := by
  simp only [backoffOut]
  (repeat' split) <;> simp

@[simp] theorem gradeFlags_keeps (a b : AttrState) (s : Station) :
    (gradeFlags a b s).link.replies = s.link.replies ∧ (gradeFlags a b s).link.tx = s.link.tx ∧
    (gradeFlags a b s).link.mute = s.link.mute ∧ (gradeFlags a b s).link.consec = s.link.consec ∧
    (gradeFlags a b s).link.drops = s.link.drops ∧ (gradeFlags a b s).link.rx = s.link.rx ∧
    (gradeFlags a b s).link.errored = s.link.errored ∧ (gradeFlags a b s).link.overruns = s.link.overruns ∧
    (gradeFlags a b s).link.idleSeen = s.link.idleSeen ∧ (gradeFlags a b s).req.mask = s.req.mask ∧
    (gradeFlags a b s).req.asm = s.req.asm ∧ (gradeFlags a b s).req.abandoned = s.req.abandoned ∧
    (gradeFlags a b s).req.restart = s.req.restart := by
  simp only [gradeFlags]
  (repeat' split) <;> simp

@[simp] theorem measureLeak_keeps (v : Nat) (s : Station) :
    (measureLeak v s).link.replies = s.link.replies ∧ (measureLeak v s).link.tx = s.link.tx ∧
    (measureLeak v s).link.mute = s.link.mute ∧ (measureLeak v s).link.consec = s.link.consec ∧
    (measureLeak v s).link.drops = s.link.drops ∧ (measureLeak v s).link.rx = s.link.rx ∧
    (measureLeak v s).link.errored = s.link.errored ∧ (measureLeak v s).link.overruns = s.link.overruns ∧
    (measureLeak v s).link.idleSeen = s.link.idleSeen ∧ (measureLeak v s).req.mask = s.req.mask ∧
    (measureLeak v s).req.asm = s.req.asm ∧ (measureLeak v s).req.abandoned = s.req.abandoned ∧
    (measureLeak v s).req.restart = s.req.restart := by
  simp only [measureLeak]
  (repeat' split) <;> simp

@[simp] theorem measureChill_keeps (v : Nat) (s : Station) :
    (measureChill v s).link.replies = s.link.replies ∧ (measureChill v s).link.tx = s.link.tx ∧
    (measureChill v s).link.mute = s.link.mute ∧ (measureChill v s).link.consec = s.link.consec ∧
    (measureChill v s).link.drops = s.link.drops ∧ (measureChill v s).link.rx = s.link.rx ∧
    (measureChill v s).link.errored = s.link.errored ∧ (measureChill v s).link.overruns = s.link.overruns ∧
    (measureChill v s).link.idleSeen = s.link.idleSeen ∧ (measureChill v s).req.mask = s.req.mask ∧
    (measureChill v s).req.asm = s.req.asm ∧ (measureChill v s).req.abandoned = s.req.abandoned ∧
    (measureChill v s).req.restart = s.req.restart := by
  simp only [measureChill]
  (repeat' split) <;> simp

@[simp] theorem measureGas_keeps (v : Nat) (s : Station) :
    (measureGas v s).link.replies = s.link.replies ∧ (measureGas v s).link.tx = s.link.tx ∧
    (measureGas v s).link.mute = s.link.mute ∧ (measureGas v s).link.consec = s.link.consec ∧
    (measureGas v s).link.drops = s.link.drops ∧ (measureGas v s).link.rx = s.link.rx ∧
    (measureGas v s).link.errored = s.link.errored ∧ (measureGas v s).link.overruns = s.link.overruns ∧
    (measureGas v s).link.idleSeen = s.link.idleSeen ∧ (measureGas v s).req.mask = s.req.mask ∧
    (measureGas v s).req.asm = s.req.asm ∧ (measureGas v s).req.abandoned = s.req.abandoned ∧
    (measureGas v s).req.restart = s.req.restart := by
  simp only [measureGas]
  (repeat' split) <;> simp

@[simp] theorem measureLink_keeps (v : Nat) (s : Station) :
    (measureLink v s).link.replies = s.link.replies ∧ (measureLink v s).link.tx = s.link.tx ∧
    (measureLink v s).link.mute = s.link.mute ∧ (measureLink v s).link.consec = s.link.consec ∧
    (measureLink v s).link.drops = s.link.drops ∧ (measureLink v s).link.rx = s.link.rx ∧
    (measureLink v s).link.errored = s.link.errored ∧ (measureLink v s).link.overruns = s.link.overruns ∧
    (measureLink v s).link.idleSeen = s.link.idleSeen ∧ (measureLink v s).req.mask = s.req.mask ∧
    (measureLink v s).req.asm = s.req.asm ∧ (measureLink v s).req.abandoned = s.req.abandoned ∧
    (measureLink v s).req.restart = s.req.restart := by
  simp only [measureLink]
  (repeat' split) <;> simp

@[simp] theorem closeChill_keeps (s : Station) :
    (closeChill s).link.replies = s.link.replies ∧ (closeChill s).link.tx = s.link.tx ∧
    (closeChill s).link.mute = s.link.mute ∧ (closeChill s).link.consec = s.link.consec ∧
    (closeChill s).link.drops = s.link.drops ∧ (closeChill s).link.rx = s.link.rx ∧
    (closeChill s).link.errored = s.link.errored ∧ (closeChill s).link.overruns = s.link.overruns ∧
    (closeChill s).link.idleSeen = s.link.idleSeen ∧ (closeChill s).req.mask = s.req.mask ∧
    (closeChill s).req.asm = s.req.asm ∧ (closeChill s).req.abandoned = s.req.abandoned ∧
    (closeChill s).req.restart = s.req.restart := by
  simp only [closeChill]
  (repeat' split) <;> simp

@[simp] theorem pouredVolume_keeps (d : Nat) (s : Station) :
    (pouredVolume d s).link.replies = s.link.replies ∧ (pouredVolume d s).link.tx = s.link.tx ∧
    (pouredVolume d s).link.mute = s.link.mute ∧ (pouredVolume d s).link.consec = s.link.consec ∧
    (pouredVolume d s).link.drops = s.link.drops ∧ (pouredVolume d s).link.rx = s.link.rx ∧
    (pouredVolume d s).link.errored = s.link.errored ∧ (pouredVolume d s).link.overruns = s.link.overruns ∧
    (pouredVolume d s).link.idleSeen = s.link.idleSeen ∧ (pouredVolume d s).req.mask = s.req.mask ∧
    (pouredVolume d s).req.asm = s.req.asm ∧ (pouredVolume d s).req.abandoned = s.req.abandoned ∧
    (pouredVolume d s).req.restart = s.req.restart := by
  simp only [pouredVolume]
  (repeat' split) <;> simp

@[simp] theorem windowFrame_keeps (b : Bool) (s : Station) :
    (windowFrame b s).link.replies = s.link.replies ∧ (windowFrame b s).link.tx = s.link.tx ∧
    (windowFrame b s).link.mute = s.link.mute ∧ (windowFrame b s).link.consec = s.link.consec ∧
    (windowFrame b s).link.drops = s.link.drops ∧ (windowFrame b s).link.rx = s.link.rx ∧
    (windowFrame b s).link.errored = s.link.errored ∧ (windowFrame b s).link.overruns = s.link.overruns ∧
    (windowFrame b s).link.idleSeen = s.link.idleSeen ∧ (windowFrame b s).req.mask = s.req.mask ∧
    (windowFrame b s).req.asm = s.req.asm ∧ (windowFrame b s).req.abandoned = s.req.abandoned ∧
    (windowFrame b s).req.restart = s.req.restart := by
  simp only [windowFrame]
  (repeat' split) <;> simp

@[simp] theorem postDemands_keeps (s : Station) :
    (postDemands s).link.replies = s.link.replies ∧ (postDemands s).link.tx = s.link.tx ∧
    (postDemands s).link.mute = s.link.mute ∧ (postDemands s).link.consec = s.link.consec ∧
    (postDemands s).link.drops = s.link.drops ∧ (postDemands s).link.rx = s.link.rx ∧
    (postDemands s).link.errored = s.link.errored ∧ (postDemands s).link.overruns = s.link.overruns ∧
    (postDemands s).link.idleSeen = s.link.idleSeen ∧ (postDemands s).prog.pair = s.prog.pair ∧
    (postDemands s).prog.mismatch = s.prog.mismatch ∧ (postDemands s).prog.vessel = s.prog.vessel ∧
    (postDemands s).prog.leadHeard = s.prog.leadHeard ∧ (postDemands s).prog.lastS = s.prog.lastS ∧
    (postDemands s).prog.secs = s.prog.secs ∧ (postDemands s).prog.inBandS = s.prog.inBandS ∧
    (postDemands s).prog.cPrev = s.prog.cPrev ∧ (postDemands s).prog.hPrev = s.prog.hPrev ∧
    (postDemands s).prog.cycleOn = s.prog.cycleOn ∧ (postDemands s).prog.starveMs = s.prog.starveMs ∧
    (postDemands s).press.on = s.press.on ∧ (postDemands s).press.pt = s.press.pt ∧
    (postDemands s).press.carbLimited = s.press.carbLimited ∧ (postDemands s).press.vent = s.press.vent ∧
    (postDemands s).press.bandReq = s.press.bandReq ∧ (postDemands s).press.primReq = s.press.primReq ∧
    (postDemands s).press.holdReq = s.press.holdReq ∧ (postDemands s).press.hourClock = s.press.hourClock ∧
    (postDemands s).press.hourCount = s.press.hourCount ∧ (postDemands s).press.acc = s.press.acc ∧
    (postDemands s).press.wholeSpund = s.press.wholeSpund ∧ (postDemands s).press.eqMark = s.press.eqMark ∧
    (postDemands s).press.log = s.press.log ∧ (postDemands s).press.lastMode = s.press.lastMode ∧
    (postDemands s).press.lastP = s.press.lastP ∧ (postDemands s).press.lastT = s.press.lastT ∧
    (postDemands s).press.tHi = s.press.tHi ∧ (postDemands s).press.tLo = s.press.tLo ∧
    (postDemands s).pools.peers = s.pools.peers ∧ (postDemands s).pools.isolated = s.pools.isolated ∧
    (postDemands s).pools.silenceMs = s.pools.silenceMs ∧
    (postDemands s).pools.overdrawHold = s.pools.overdrawHold ∧
    (postDemands s).pools.backoffMs = s.pools.backoffMs ∧ (postDemands s).pools.overdraws = s.pools.overdraws := by
  simp only [postDemands]
  (repeat' split) <;> simp

@[simp] theorem progRecompute_keeps (s : Station) :
    (progRecompute s).link.replies = s.link.replies ∧ (progRecompute s).link.tx = s.link.tx ∧
    (progRecompute s).link.mute = s.link.mute ∧ (progRecompute s).link.consec = s.link.consec ∧
    (progRecompute s).link.drops = s.link.drops ∧ (progRecompute s).link.rx = s.link.rx ∧
    (progRecompute s).link.errored = s.link.errored ∧ (progRecompute s).link.overruns = s.link.overruns ∧
    (progRecompute s).link.idleSeen = s.link.idleSeen ∧ (progRecompute s).prog.pair = s.prog.pair ∧
    (progRecompute s).prog.mismatch = s.prog.mismatch ∧ (progRecompute s).prog.vessel = s.prog.vessel ∧
    (progRecompute s).prog.leadHeard = s.prog.leadHeard ∧ (progRecompute s).prog.lastS = s.prog.lastS ∧
    (progRecompute s).prog.secs = s.prog.secs ∧ (progRecompute s).prog.inBandS = s.prog.inBandS ∧
    (progRecompute s).prog.cPrev = s.prog.cPrev ∧ (progRecompute s).prog.hPrev = s.prog.hPrev ∧
    (progRecompute s).prog.cycleOn = s.prog.cycleOn ∧ (progRecompute s).prog.starveMs = s.prog.starveMs ∧
    (progRecompute s).press.on = s.press.on ∧ (progRecompute s).press.pt = s.press.pt ∧
    (progRecompute s).press.carbLimited = s.press.carbLimited ∧ (progRecompute s).press.vent = s.press.vent ∧
    (progRecompute s).press.bandReq = s.press.bandReq ∧ (progRecompute s).press.primReq = s.press.primReq ∧
    (progRecompute s).press.holdReq = s.press.holdReq ∧ (progRecompute s).press.hourClock = s.press.hourClock ∧
    (progRecompute s).press.hourCount = s.press.hourCount ∧ (progRecompute s).press.acc = s.press.acc ∧
    (progRecompute s).press.wholeSpund = s.press.wholeSpund ∧ (progRecompute s).press.eqMark = s.press.eqMark ∧
    (progRecompute s).press.log = s.press.log ∧ (progRecompute s).press.lastMode = s.press.lastMode ∧
    (progRecompute s).press.lastP = s.press.lastP ∧ (progRecompute s).press.lastT = s.press.lastT ∧
    (progRecompute s).press.tHi = s.press.tHi ∧ (progRecompute s).press.tLo = s.press.tLo ∧
    (progRecompute s).pools.peers = s.pools.peers ∧ (progRecompute s).pools.isolated = s.pools.isolated ∧
    (progRecompute s).pools.silenceMs = s.pools.silenceMs ∧
    (progRecompute s).pools.overdrawHold = s.pools.overdrawHold ∧
    (progRecompute s).pools.backoffMs = s.pools.backoffMs ∧ (progRecompute s).pools.overdraws = s.pools.overdraws := by
  simp only [progRecompute]
  (repeat' split) <;> simp

@[simp] theorem closeThermal_keeps (s : Station) :
    (closeThermal s).prog.pair = s.prog.pair ∧ (closeThermal s).prog.mismatch = s.prog.mismatch ∧
    (closeThermal s).prog.vessel = s.prog.vessel ∧ (closeThermal s).prog.leadHeard = s.prog.leadHeard ∧
    (closeThermal s).prog.lastS = s.prog.lastS ∧ (closeThermal s).prog.secs = s.prog.secs ∧
    (closeThermal s).prog.inBandS = s.prog.inBandS ∧ (closeThermal s).prog.cPrev = s.prog.cPrev ∧
    (closeThermal s).prog.hPrev = s.prog.hPrev ∧ (closeThermal s).prog.cycleOn = s.prog.cycleOn ∧
    (closeThermal s).prog.starveMs = s.prog.starveMs := by
  simp only [closeThermal]
  (repeat' split) <;> simp

@[simp] theorem starvedTest_keeps (s : Station) :
    (starvedTest s).link.replies = s.link.replies ∧ (starvedTest s).link.tx = s.link.tx ∧
    (starvedTest s).link.mute = s.link.mute ∧ (starvedTest s).link.consec = s.link.consec ∧
    (starvedTest s).link.drops = s.link.drops ∧ (starvedTest s).link.rx = s.link.rx ∧
    (starvedTest s).link.errored = s.link.errored ∧ (starvedTest s).link.overruns = s.link.overruns ∧
    (starvedTest s).link.idleSeen = s.link.idleSeen ∧ (starvedTest s).req.mask = s.req.mask ∧
    (starvedTest s).req.asm = s.req.asm ∧ (starvedTest s).req.abandoned = s.req.abandoned ∧
    (starvedTest s).req.restart = s.req.restart := by
  simp only [starvedTest]
  (repeat' split) <;> simp

@[simp] theorem startCycle_keeps (s : Station) :
    (startCycle s).link.replies = s.link.replies ∧ (startCycle s).link.tx = s.link.tx ∧
    (startCycle s).link.mute = s.link.mute ∧ (startCycle s).link.consec = s.link.consec ∧
    (startCycle s).link.drops = s.link.drops ∧ (startCycle s).link.rx = s.link.rx ∧
    (startCycle s).link.errored = s.link.errored ∧ (startCycle s).link.overruns = s.link.overruns ∧
    (startCycle s).link.idleSeen = s.link.idleSeen ∧ (startCycle s).req.mask = s.req.mask ∧
    (startCycle s).req.asm = s.req.asm ∧ (startCycle s).req.abandoned = s.req.abandoned ∧
    (startCycle s).req.restart = s.req.restart := by
  simp only [startCycle]
  (repeat' split) <;> simp

@[simp] theorem starvation_keeps (s : Station) :
    (starvation s).link.replies = s.link.replies ∧ (starvation s).link.tx = s.link.tx ∧
    (starvation s).link.mute = s.link.mute ∧ (starvation s).link.consec = s.link.consec ∧
    (starvation s).link.drops = s.link.drops ∧ (starvation s).link.rx = s.link.rx ∧
    (starvation s).link.errored = s.link.errored ∧ (starvation s).link.overruns = s.link.overruns ∧
    (starvation s).link.idleSeen = s.link.idleSeen ∧ (starvation s).req.mask = s.req.mask ∧
    (starvation s).req.asm = s.req.asm ∧ (starvation s).req.abandoned = s.req.abandoned ∧
    (starvation s).req.restart = s.req.restart := by
  simp only [starvation]
  (repeat' split) <;> simp

@[simp] theorem computeTarget_keeps (s : Station) :
    (computeTarget s).link.replies = s.link.replies ∧ (computeTarget s).link.tx = s.link.tx ∧
    (computeTarget s).link.mute = s.link.mute ∧ (computeTarget s).link.consec = s.link.consec ∧
    (computeTarget s).link.drops = s.link.drops ∧ (computeTarget s).link.rx = s.link.rx ∧
    (computeTarget s).link.errored = s.link.errored ∧ (computeTarget s).link.overruns = s.link.overruns ∧
    (computeTarget s).link.idleSeen = s.link.idleSeen ∧ (computeTarget s).req.mask = s.req.mask ∧
    (computeTarget s).req.asm = s.req.asm ∧ (computeTarget s).req.abandoned = s.req.abandoned ∧
    (computeTarget s).req.restart = s.req.restart := by
  simp only [computeTarget]
  (repeat' split) <;> simp

@[simp] theorem redecide_keeps (s : Station) :
    (redecide s).link.replies = s.link.replies ∧ (redecide s).link.tx = s.link.tx ∧
    (redecide s).link.mute = s.link.mute ∧ (redecide s).link.consec = s.link.consec ∧
    (redecide s).link.drops = s.link.drops ∧ (redecide s).link.rx = s.link.rx ∧
    (redecide s).link.errored = s.link.errored ∧ (redecide s).link.overruns = s.link.overruns ∧
    (redecide s).link.idleSeen = s.link.idleSeen ∧ (redecide s).req.mask = s.req.mask ∧
    (redecide s).req.asm = s.req.asm ∧ (redecide s).req.abandoned = s.req.abandoned ∧
    (redecide s).req.restart = s.req.restart ∧ (redecide s).prog.pair = s.prog.pair ∧
    (redecide s).prog.mismatch = s.prog.mismatch ∧ (redecide s).prog.vessel = s.prog.vessel ∧
    (redecide s).prog.leadHeard = s.prog.leadHeard ∧ (redecide s).prog.lastS = s.prog.lastS ∧
    (redecide s).prog.secs = s.prog.secs ∧ (redecide s).prog.inBandS = s.prog.inBandS ∧
    (redecide s).prog.cPrev = s.prog.cPrev ∧ (redecide s).prog.hPrev = s.prog.hPrev ∧
    (redecide s).prog.cycleOn = s.prog.cycleOn ∧ (redecide s).prog.starveMs = s.prog.starveMs ∧
    (redecide s).pools.peers = s.pools.peers ∧ (redecide s).pools.isolated = s.pools.isolated ∧
    (redecide s).pools.silenceMs = s.pools.silenceMs ∧ (redecide s).pools.overdrawHold = s.pools.overdrawHold ∧
    (redecide s).pools.backoffMs = s.pools.backoffMs ∧ (redecide s).pools.overdraws = s.pools.overdraws := by
  simp only [redecide]
  (repeat' split) <;> simp

@[simp] theorem toldPriming_keeps (s : Station) :
    (toldPriming s).link.replies = s.link.replies ∧ (toldPriming s).link.tx = s.link.tx ∧
    (toldPriming s).link.mute = s.link.mute ∧ (toldPriming s).link.consec = s.link.consec ∧
    (toldPriming s).link.drops = s.link.drops ∧ (toldPriming s).link.rx = s.link.rx ∧
    (toldPriming s).link.errored = s.link.errored ∧ (toldPriming s).link.overruns = s.link.overruns ∧
    (toldPriming s).link.idleSeen = s.link.idleSeen ∧ (toldPriming s).prog.pair = s.prog.pair ∧
    (toldPriming s).prog.mismatch = s.prog.mismatch ∧ (toldPriming s).prog.vessel = s.prog.vessel ∧
    (toldPriming s).prog.leadHeard = s.prog.leadHeard ∧ (toldPriming s).prog.lastS = s.prog.lastS ∧
    (toldPriming s).prog.secs = s.prog.secs ∧ (toldPriming s).prog.inBandS = s.prog.inBandS ∧
    (toldPriming s).prog.cPrev = s.prog.cPrev ∧ (toldPriming s).prog.hPrev = s.prog.hPrev ∧
    (toldPriming s).prog.cycleOn = s.prog.cycleOn ∧ (toldPriming s).prog.starveMs = s.prog.starveMs ∧
    (toldPriming s).pools.peers = s.pools.peers ∧ (toldPriming s).pools.isolated = s.pools.isolated ∧
    (toldPriming s).pools.silenceMs = s.pools.silenceMs ∧
    (toldPriming s).pools.overdrawHold = s.pools.overdrawHold ∧
    (toldPriming s).pools.backoffMs = s.pools.backoffMs ∧ (toldPriming s).pools.overdraws = s.pools.overdraws := by
  simp only [toldPriming]
  (repeat' split) <;> simp

@[simp] theorem enterActive_keeps (s : Station) :
    (enterActive s).link.replies = s.link.replies ∧ (enterActive s).link.tx = s.link.tx ∧
    (enterActive s).link.mute = s.link.mute ∧ (enterActive s).link.consec = s.link.consec ∧
    (enterActive s).link.drops = s.link.drops ∧ (enterActive s).link.rx = s.link.rx ∧
    (enterActive s).link.errored = s.link.errored ∧ (enterActive s).link.overruns = s.link.overruns ∧
    (enterActive s).link.idleSeen = s.link.idleSeen ∧ (enterActive s).prog.pair = s.prog.pair ∧
    (enterActive s).prog.mismatch = s.prog.mismatch ∧ (enterActive s).prog.vessel = s.prog.vessel ∧
    (enterActive s).prog.leadHeard = s.prog.leadHeard ∧ (enterActive s).prog.lastS = s.prog.lastS ∧
    (enterActive s).prog.secs = s.prog.secs ∧ (enterActive s).prog.inBandS = s.prog.inBandS ∧
    (enterActive s).prog.cPrev = s.prog.cPrev ∧ (enterActive s).prog.hPrev = s.prog.hPrev ∧
    (enterActive s).prog.cycleOn = s.prog.cycleOn ∧ (enterActive s).prog.starveMs = s.prog.starveMs ∧
    (enterActive s).pools.peers = s.pools.peers ∧ (enterActive s).pools.isolated = s.pools.isolated ∧
    (enterActive s).pools.silenceMs = s.pools.silenceMs ∧
    (enterActive s).pools.overdrawHold = s.pools.overdrawHold ∧
    (enterActive s).pools.backoffMs = s.pools.backoffMs ∧ (enterActive s).pools.overdraws = s.pools.overdraws := by
  simp only [enterActive]
  (repeat' split) <;> simp

@[simp] theorem toldActive_keeps (s : Station) :
    (toldActive s).link.replies = s.link.replies ∧ (toldActive s).link.tx = s.link.tx ∧
    (toldActive s).link.mute = s.link.mute ∧ (toldActive s).link.consec = s.link.consec ∧
    (toldActive s).link.drops = s.link.drops ∧ (toldActive s).link.rx = s.link.rx ∧
    (toldActive s).link.errored = s.link.errored ∧ (toldActive s).link.overruns = s.link.overruns ∧
    (toldActive s).link.idleSeen = s.link.idleSeen ∧ (toldActive s).prog.pair = s.prog.pair ∧
    (toldActive s).prog.mismatch = s.prog.mismatch ∧ (toldActive s).prog.vessel = s.prog.vessel ∧
    (toldActive s).prog.leadHeard = s.prog.leadHeard ∧ (toldActive s).prog.lastS = s.prog.lastS ∧
    (toldActive s).prog.secs = s.prog.secs ∧ (toldActive s).prog.inBandS = s.prog.inBandS ∧
    (toldActive s).prog.cPrev = s.prog.cPrev ∧ (toldActive s).prog.hPrev = s.prog.hPrev ∧
    (toldActive s).prog.cycleOn = s.prog.cycleOn ∧ (toldActive s).prog.starveMs = s.prog.starveMs ∧
    (toldActive s).pools.peers = s.pools.peers ∧ (toldActive s).pools.isolated = s.pools.isolated ∧
    (toldActive s).pools.silenceMs = s.pools.silenceMs ∧ (toldActive s).pools.overdrawHold = s.pools.overdrawHold ∧
    (toldActive s).pools.backoffMs = s.pools.backoffMs ∧ (toldActive s).pools.overdraws = s.pools.overdraws := by
  simp only [toldActive]
  (repeat' split) <;> simp

@[simp] theorem toldPause_keeps (s : Station) :
    (toldPause s).link.replies = s.link.replies ∧ (toldPause s).link.tx = s.link.tx ∧
    (toldPause s).link.mute = s.link.mute ∧ (toldPause s).link.consec = s.link.consec ∧
    (toldPause s).link.drops = s.link.drops ∧ (toldPause s).link.rx = s.link.rx ∧
    (toldPause s).link.errored = s.link.errored ∧ (toldPause s).link.overruns = s.link.overruns ∧
    (toldPause s).link.idleSeen = s.link.idleSeen ∧ (toldPause s).prog.pair = s.prog.pair ∧
    (toldPause s).prog.mismatch = s.prog.mismatch ∧ (toldPause s).prog.vessel = s.prog.vessel ∧
    (toldPause s).prog.leadHeard = s.prog.leadHeard ∧ (toldPause s).prog.lastS = s.prog.lastS ∧
    (toldPause s).prog.secs = s.prog.secs ∧ (toldPause s).prog.inBandS = s.prog.inBandS ∧
    (toldPause s).prog.cPrev = s.prog.cPrev ∧ (toldPause s).prog.hPrev = s.prog.hPrev ∧
    (toldPause s).prog.cycleOn = s.prog.cycleOn ∧ (toldPause s).prog.starveMs = s.prog.starveMs ∧
    (toldPause s).pools.peers = s.pools.peers ∧ (toldPause s).pools.isolated = s.pools.isolated ∧
    (toldPause s).pools.silenceMs = s.pools.silenceMs ∧ (toldPause s).pools.overdrawHold = s.pools.overdrawHold ∧
    (toldPause s).pools.backoffMs = s.pools.backoffMs ∧ (toldPause s).pools.overdraws = s.pools.overdraws := by
  simp only [toldPause]
  (repeat' split) <;> simp

@[simp] theorem toldPrimed_keeps (s : Station) :
    (toldPrimed s).link.replies = s.link.replies ∧ (toldPrimed s).link.tx = s.link.tx ∧
    (toldPrimed s).link.mute = s.link.mute ∧ (toldPrimed s).link.consec = s.link.consec ∧
    (toldPrimed s).link.drops = s.link.drops ∧ (toldPrimed s).link.rx = s.link.rx ∧
    (toldPrimed s).link.errored = s.link.errored ∧ (toldPrimed s).link.overruns = s.link.overruns ∧
    (toldPrimed s).link.idleSeen = s.link.idleSeen ∧ (toldPrimed s).prog.pair = s.prog.pair ∧
    (toldPrimed s).prog.mismatch = s.prog.mismatch ∧ (toldPrimed s).prog.vessel = s.prog.vessel ∧
    (toldPrimed s).prog.leadHeard = s.prog.leadHeard ∧ (toldPrimed s).prog.lastS = s.prog.lastS ∧
    (toldPrimed s).prog.secs = s.prog.secs ∧ (toldPrimed s).prog.inBandS = s.prog.inBandS ∧
    (toldPrimed s).prog.cPrev = s.prog.cPrev ∧ (toldPrimed s).prog.hPrev = s.prog.hPrev ∧
    (toldPrimed s).prog.cycleOn = s.prog.cycleOn ∧ (toldPrimed s).prog.starveMs = s.prog.starveMs ∧
    (toldPrimed s).pools.peers = s.pools.peers ∧ (toldPrimed s).pools.isolated = s.pools.isolated ∧
    (toldPrimed s).pools.silenceMs = s.pools.silenceMs ∧ (toldPrimed s).pools.overdrawHold = s.pools.overdrawHold ∧
    (toldPrimed s).pools.backoffMs = s.pools.backoffMs ∧ (toldPrimed s).pools.overdraws = s.pools.overdraws := by
  simp only [toldPrimed]
  (repeat' split) <;> simp

@[simp] theorem imposeHold_keeps (s : Station) :
    (imposeHold s).link.replies = s.link.replies ∧ (imposeHold s).link.tx = s.link.tx ∧
    (imposeHold s).link.mute = s.link.mute ∧ (imposeHold s).link.consec = s.link.consec ∧
    (imposeHold s).link.drops = s.link.drops ∧ (imposeHold s).link.rx = s.link.rx ∧
    (imposeHold s).link.errored = s.link.errored ∧ (imposeHold s).link.overruns = s.link.overruns ∧
    (imposeHold s).link.idleSeen = s.link.idleSeen ∧ (imposeHold s).prog.pair = s.prog.pair ∧
    (imposeHold s).prog.mismatch = s.prog.mismatch ∧ (imposeHold s).prog.vessel = s.prog.vessel ∧
    (imposeHold s).prog.leadHeard = s.prog.leadHeard ∧ (imposeHold s).prog.lastS = s.prog.lastS ∧
    (imposeHold s).prog.secs = s.prog.secs ∧ (imposeHold s).prog.inBandS = s.prog.inBandS ∧
    (imposeHold s).prog.cPrev = s.prog.cPrev ∧ (imposeHold s).prog.hPrev = s.prog.hPrev ∧
    (imposeHold s).prog.cycleOn = s.prog.cycleOn ∧ (imposeHold s).prog.starveMs = s.prog.starveMs ∧
    (imposeHold s).pools.peers = s.pools.peers ∧ (imposeHold s).pools.isolated = s.pools.isolated ∧
    (imposeHold s).pools.silenceMs = s.pools.silenceMs ∧ (imposeHold s).pools.overdrawHold = s.pools.overdrawHold ∧
    (imposeHold s).pools.backoffMs = s.pools.backoffMs ∧ (imposeHold s).pools.overdraws = s.pools.overdraws := by
  simp only [imposeHold]
  (repeat' split) <;> simp

@[simp] theorem imposeLockout_keeps (s : Station) :
    (imposeLockout s).link.replies = s.link.replies ∧ (imposeLockout s).link.tx = s.link.tx ∧
    (imposeLockout s).link.mute = s.link.mute ∧ (imposeLockout s).link.consec = s.link.consec ∧
    (imposeLockout s).link.drops = s.link.drops ∧ (imposeLockout s).link.rx = s.link.rx ∧
    (imposeLockout s).link.errored = s.link.errored ∧ (imposeLockout s).link.overruns = s.link.overruns ∧
    (imposeLockout s).link.idleSeen = s.link.idleSeen ∧ (imposeLockout s).prog.pair = s.prog.pair ∧
    (imposeLockout s).prog.mismatch = s.prog.mismatch ∧ (imposeLockout s).prog.vessel = s.prog.vessel ∧
    (imposeLockout s).prog.leadHeard = s.prog.leadHeard ∧ (imposeLockout s).prog.lastS = s.prog.lastS ∧
    (imposeLockout s).prog.secs = s.prog.secs ∧ (imposeLockout s).prog.inBandS = s.prog.inBandS ∧
    (imposeLockout s).prog.cPrev = s.prog.cPrev ∧ (imposeLockout s).prog.hPrev = s.prog.hPrev ∧
    (imposeLockout s).prog.cycleOn = s.prog.cycleOn ∧ (imposeLockout s).prog.starveMs = s.prog.starveMs ∧
    (imposeLockout s).pools.peers = s.pools.peers ∧ (imposeLockout s).pools.isolated = s.pools.isolated ∧
    (imposeLockout s).pools.silenceMs = s.pools.silenceMs ∧
    (imposeLockout s).pools.overdrawHold = s.pools.overdrawHold ∧
    (imposeLockout s).pools.backoffMs = s.pools.backoffMs ∧ (imposeLockout s).pools.overdraws = s.pools.overdraws := by
  simp only [imposeLockout]
  (repeat' split) <;> simp

@[simp] theorem liftHold_keeps (s : Station) :
    (liftHold s).link.replies = s.link.replies ∧ (liftHold s).link.tx = s.link.tx ∧
    (liftHold s).link.mute = s.link.mute ∧ (liftHold s).link.consec = s.link.consec ∧
    (liftHold s).link.drops = s.link.drops ∧ (liftHold s).link.rx = s.link.rx ∧
    (liftHold s).link.errored = s.link.errored ∧ (liftHold s).link.overruns = s.link.overruns ∧
    (liftHold s).link.idleSeen = s.link.idleSeen ∧ (liftHold s).prog.pair = s.prog.pair ∧
    (liftHold s).prog.mismatch = s.prog.mismatch ∧ (liftHold s).prog.vessel = s.prog.vessel ∧
    (liftHold s).prog.leadHeard = s.prog.leadHeard ∧ (liftHold s).prog.lastS = s.prog.lastS ∧
    (liftHold s).prog.secs = s.prog.secs ∧ (liftHold s).prog.inBandS = s.prog.inBandS ∧
    (liftHold s).prog.cPrev = s.prog.cPrev ∧ (liftHold s).prog.hPrev = s.prog.hPrev ∧
    (liftHold s).prog.cycleOn = s.prog.cycleOn ∧ (liftHold s).prog.starveMs = s.prog.starveMs ∧
    (liftHold s).pools.peers = s.pools.peers ∧ (liftHold s).pools.isolated = s.pools.isolated ∧
    (liftHold s).pools.silenceMs = s.pools.silenceMs ∧ (liftHold s).pools.overdrawHold = s.pools.overdrawHold ∧
    (liftHold s).pools.backoffMs = s.pools.backoffMs ∧ (liftHold s).pools.overdraws = s.pools.overdraws := by
  simp only [liftHold]
  (repeat' split) <;> simp

@[simp] theorem liftLockout_keeps (s : Station) :
    (liftLockout s).link.replies = s.link.replies ∧ (liftLockout s).link.tx = s.link.tx ∧
    (liftLockout s).link.mute = s.link.mute ∧ (liftLockout s).link.consec = s.link.consec ∧
    (liftLockout s).link.drops = s.link.drops ∧ (liftLockout s).link.rx = s.link.rx ∧
    (liftLockout s).link.errored = s.link.errored ∧ (liftLockout s).link.overruns = s.link.overruns ∧
    (liftLockout s).link.idleSeen = s.link.idleSeen ∧ (liftLockout s).prog.pair = s.prog.pair ∧
    (liftLockout s).prog.mismatch = s.prog.mismatch ∧ (liftLockout s).prog.vessel = s.prog.vessel ∧
    (liftLockout s).prog.leadHeard = s.prog.leadHeard ∧ (liftLockout s).prog.lastS = s.prog.lastS ∧
    (liftLockout s).prog.secs = s.prog.secs ∧ (liftLockout s).prog.inBandS = s.prog.inBandS ∧
    (liftLockout s).prog.cPrev = s.prog.cPrev ∧ (liftLockout s).prog.hPrev = s.prog.hPrev ∧
    (liftLockout s).prog.cycleOn = s.prog.cycleOn ∧ (liftLockout s).prog.starveMs = s.prog.starveMs ∧
    (liftLockout s).pools.peers = s.pools.peers ∧ (liftLockout s).pools.isolated = s.pools.isolated ∧
    (liftLockout s).pools.silenceMs = s.pools.silenceMs ∧
    (liftLockout s).pools.overdrawHold = s.pools.overdrawHold ∧
    (liftLockout s).pools.backoffMs = s.pools.backoffMs ∧ (liftLockout s).pools.overdraws = s.pools.overdraws := by
  simp only [liftLockout]
  (repeat' split) <;> simp

@[simp] theorem testStarted_keeps (s : Station) :
    (testStarted s).link.replies = s.link.replies ∧ (testStarted s).link.tx = s.link.tx ∧
    (testStarted s).link.mute = s.link.mute ∧ (testStarted s).link.consec = s.link.consec ∧
    (testStarted s).link.drops = s.link.drops ∧ (testStarted s).link.rx = s.link.rx ∧
    (testStarted s).link.errored = s.link.errored ∧ (testStarted s).link.overruns = s.link.overruns ∧
    (testStarted s).link.idleSeen = s.link.idleSeen ∧ (testStarted s).prog.pair = s.prog.pair ∧
    (testStarted s).prog.mismatch = s.prog.mismatch ∧ (testStarted s).prog.vessel = s.prog.vessel ∧
    (testStarted s).prog.leadHeard = s.prog.leadHeard ∧ (testStarted s).prog.lastS = s.prog.lastS ∧
    (testStarted s).prog.secs = s.prog.secs ∧ (testStarted s).prog.inBandS = s.prog.inBandS ∧
    (testStarted s).prog.cPrev = s.prog.cPrev ∧ (testStarted s).prog.hPrev = s.prog.hPrev ∧
    (testStarted s).prog.cycleOn = s.prog.cycleOn ∧ (testStarted s).prog.starveMs = s.prog.starveMs ∧
    (testStarted s).pools.peers = s.pools.peers ∧ (testStarted s).pools.isolated = s.pools.isolated ∧
    (testStarted s).pools.silenceMs = s.pools.silenceMs ∧
    (testStarted s).pools.overdrawHold = s.pools.overdrawHold ∧
    (testStarted s).pools.backoffMs = s.pools.backoffMs ∧ (testStarted s).pools.overdraws = s.pools.overdraws := by
  simp only [testStarted]
  (repeat' split) <;> simp

@[simp] theorem testEnded_keeps (s : Station) :
    (testEnded s).link.replies = s.link.replies ∧ (testEnded s).link.tx = s.link.tx ∧
    (testEnded s).link.mute = s.link.mute ∧ (testEnded s).link.consec = s.link.consec ∧
    (testEnded s).link.drops = s.link.drops ∧ (testEnded s).link.rx = s.link.rx ∧
    (testEnded s).link.errored = s.link.errored ∧ (testEnded s).link.overruns = s.link.overruns ∧
    (testEnded s).link.idleSeen = s.link.idleSeen ∧ (testEnded s).prog.pair = s.prog.pair ∧
    (testEnded s).prog.mismatch = s.prog.mismatch ∧ (testEnded s).prog.vessel = s.prog.vessel ∧
    (testEnded s).prog.leadHeard = s.prog.leadHeard ∧ (testEnded s).prog.lastS = s.prog.lastS ∧
    (testEnded s).prog.secs = s.prog.secs ∧ (testEnded s).prog.inBandS = s.prog.inBandS ∧
    (testEnded s).prog.cPrev = s.prog.cPrev ∧ (testEnded s).prog.hPrev = s.prog.hPrev ∧
    (testEnded s).prog.cycleOn = s.prog.cycleOn ∧ (testEnded s).prog.starveMs = s.prog.starveMs ∧
    (testEnded s).pools.peers = s.pools.peers ∧ (testEnded s).pools.isolated = s.pools.isolated ∧
    (testEnded s).pools.silenceMs = s.pools.silenceMs ∧ (testEnded s).pools.overdrawHold = s.pools.overdrawHold ∧
    (testEnded s).pools.backoffMs = s.pools.backoffMs ∧ (testEnded s).pools.overdraws = s.pools.overdraws := by
  simp only [testEnded]
  (repeat' split) <;> simp

@[simp] theorem toldEnd_keeps (b : Bool) (s : Station) :
    (toldEnd b s).link.replies = s.link.replies ∧ (toldEnd b s).link.tx = s.link.tx ∧
    (toldEnd b s).link.mute = s.link.mute ∧ (toldEnd b s).link.consec = s.link.consec ∧
    (toldEnd b s).link.drops = s.link.drops ∧ (toldEnd b s).link.rx = s.link.rx ∧
    (toldEnd b s).link.errored = s.link.errored ∧ (toldEnd b s).link.overruns = s.link.overruns ∧
    (toldEnd b s).link.idleSeen = s.link.idleSeen ∧ (toldEnd b s).prog.pair = s.prog.pair ∧
    (toldEnd b s).prog.mismatch = s.prog.mismatch ∧ (toldEnd b s).prog.vessel = s.prog.vessel ∧
    (toldEnd b s).prog.leadHeard = s.prog.leadHeard ∧ (toldEnd b s).prog.lastS = s.prog.lastS ∧
    (toldEnd b s).prog.secs = s.prog.secs ∧ (toldEnd b s).prog.inBandS = s.prog.inBandS ∧
    (toldEnd b s).prog.cPrev = s.prog.cPrev ∧ (toldEnd b s).prog.hPrev = s.prog.hPrev ∧
    (toldEnd b s).prog.cycleOn = s.prog.cycleOn ∧ (toldEnd b s).prog.starveMs = s.prog.starveMs ∧
    (toldEnd b s).pools.peers = s.pools.peers ∧ (toldEnd b s).pools.isolated = s.pools.isolated ∧
    (toldEnd b s).pools.silenceMs = s.pools.silenceMs ∧ (toldEnd b s).pools.overdrawHold = s.pools.overdrawHold ∧
    (toldEnd b s).pools.backoffMs = s.pools.backoffMs ∧ (toldEnd b s).pools.overdraws = s.pools.overdraws := by
  simp only [toldEnd]
  (repeat' split) <;> simp

@[simp] theorem startTest_keeps (m : Nat) (s : Station) :
    (startTest m s).link.replies = s.link.replies ∧ (startTest m s).link.tx = s.link.tx ∧
    (startTest m s).link.mute = s.link.mute ∧ (startTest m s).link.consec = s.link.consec ∧
    (startTest m s).link.drops = s.link.drops ∧ (startTest m s).link.rx = s.link.rx ∧
    (startTest m s).link.errored = s.link.errored ∧ (startTest m s).link.overruns = s.link.overruns ∧
    (startTest m s).link.idleSeen = s.link.idleSeen ∧ (startTest m s).prog.pair = s.prog.pair ∧
    (startTest m s).prog.mismatch = s.prog.mismatch ∧ (startTest m s).prog.vessel = s.prog.vessel ∧
    (startTest m s).prog.leadHeard = s.prog.leadHeard ∧ (startTest m s).prog.lastS = s.prog.lastS ∧
    (startTest m s).prog.secs = s.prog.secs ∧ (startTest m s).prog.inBandS = s.prog.inBandS ∧
    (startTest m s).prog.cPrev = s.prog.cPrev ∧ (startTest m s).prog.hPrev = s.prog.hPrev ∧
    (startTest m s).prog.cycleOn = s.prog.cycleOn ∧ (startTest m s).prog.starveMs = s.prog.starveMs ∧
    (startTest m s).pools.peers = s.pools.peers ∧ (startTest m s).pools.isolated = s.pools.isolated ∧
    (startTest m s).pools.silenceMs = s.pools.silenceMs ∧
    (startTest m s).pools.overdrawHold = s.pools.overdrawHold ∧
    (startTest m s).pools.backoffMs = s.pools.backoffMs ∧ (startTest m s).pools.overdraws = s.pools.overdraws := by
  simp only [startTest]
  (repeat' split) <;> simp

@[simp] theorem endTestEarly_keeps (o : TestOutcome) (s : Station) :
    (endTestEarly o s).link.replies = s.link.replies ∧ (endTestEarly o s).link.tx = s.link.tx ∧
    (endTestEarly o s).link.mute = s.link.mute ∧ (endTestEarly o s).link.consec = s.link.consec ∧
    (endTestEarly o s).link.drops = s.link.drops ∧ (endTestEarly o s).link.rx = s.link.rx ∧
    (endTestEarly o s).link.errored = s.link.errored ∧ (endTestEarly o s).link.overruns = s.link.overruns ∧
    (endTestEarly o s).link.idleSeen = s.link.idleSeen ∧ (endTestEarly o s).req.mask = s.req.mask ∧
    (endTestEarly o s).req.asm = s.req.asm ∧ (endTestEarly o s).req.abandoned = s.req.abandoned ∧
    (endTestEarly o s).req.restart = s.req.restart ∧ (endTestEarly o s).prog.pair = s.prog.pair ∧
    (endTestEarly o s).prog.mismatch = s.prog.mismatch ∧ (endTestEarly o s).prog.vessel = s.prog.vessel ∧
    (endTestEarly o s).prog.leadHeard = s.prog.leadHeard ∧ (endTestEarly o s).prog.lastS = s.prog.lastS ∧
    (endTestEarly o s).prog.secs = s.prog.secs ∧ (endTestEarly o s).prog.inBandS = s.prog.inBandS ∧
    (endTestEarly o s).prog.cPrev = s.prog.cPrev ∧ (endTestEarly o s).prog.hPrev = s.prog.hPrev ∧
    (endTestEarly o s).prog.cycleOn = s.prog.cycleOn ∧ (endTestEarly o s).prog.starveMs = s.prog.starveMs ∧
    (endTestEarly o s).pools.peers = s.pools.peers ∧ (endTestEarly o s).pools.isolated = s.pools.isolated ∧
    (endTestEarly o s).pools.silenceMs = s.pools.silenceMs ∧
    (endTestEarly o s).pools.overdrawHold = s.pools.overdrawHold ∧
    (endTestEarly o s).pools.backoffMs = s.pools.backoffMs ∧ (endTestEarly o s).pools.overdraws = s.pools.overdraws := by
  simp only [endTestEarly]
  (repeat' split) <;> simp

@[simp] theorem finishTest_keeps (t : LeakTest) (s : Station) :
    (finishTest t s).link.replies = s.link.replies ∧ (finishTest t s).link.tx = s.link.tx ∧
    (finishTest t s).link.mute = s.link.mute ∧ (finishTest t s).link.consec = s.link.consec ∧
    (finishTest t s).link.drops = s.link.drops ∧ (finishTest t s).link.rx = s.link.rx ∧
    (finishTest t s).link.errored = s.link.errored ∧ (finishTest t s).link.overruns = s.link.overruns ∧
    (finishTest t s).link.idleSeen = s.link.idleSeen ∧ (finishTest t s).req.mask = s.req.mask ∧
    (finishTest t s).req.asm = s.req.asm ∧ (finishTest t s).req.abandoned = s.req.abandoned ∧
    (finishTest t s).req.restart = s.req.restart ∧ (finishTest t s).prog.pair = s.prog.pair ∧
    (finishTest t s).prog.mismatch = s.prog.mismatch ∧ (finishTest t s).prog.vessel = s.prog.vessel ∧
    (finishTest t s).prog.leadHeard = s.prog.leadHeard ∧ (finishTest t s).prog.lastS = s.prog.lastS ∧
    (finishTest t s).prog.secs = s.prog.secs ∧ (finishTest t s).prog.inBandS = s.prog.inBandS ∧
    (finishTest t s).prog.cPrev = s.prog.cPrev ∧ (finishTest t s).prog.hPrev = s.prog.hPrev ∧
    (finishTest t s).prog.cycleOn = s.prog.cycleOn ∧ (finishTest t s).prog.starveMs = s.prog.starveMs ∧
    (finishTest t s).pools.peers = s.pools.peers ∧ (finishTest t s).pools.isolated = s.pools.isolated ∧
    (finishTest t s).pools.silenceMs = s.pools.silenceMs ∧
    (finishTest t s).pools.overdrawHold = s.pools.overdrawHold ∧
    (finishTest t s).pools.backoffMs = s.pools.backoffMs ∧ (finishTest t s).pools.overdraws = s.pools.overdraws := by
  simp only [finishTest]
  (repeat' split) <;> simp

@[simp] theorem setTap_keeps (v : Bool) (s : Station) :
    (setTap v s).pour.freeze = s.pour.freeze ∧ (setTap v s).pour.serving = s.pour.serving ∧
    (setTap v s).press.on = s.press.on ∧ (setTap v s).press.pt = s.press.pt ∧
    (setTap v s).press.carbLimited = s.press.carbLimited ∧ (setTap v s).press.vent = s.press.vent ∧
    (setTap v s).press.bandReq = s.press.bandReq ∧ (setTap v s).press.primReq = s.press.primReq ∧
    (setTap v s).press.holdReq = s.press.holdReq ∧ (setTap v s).press.hourClock = s.press.hourClock ∧
    (setTap v s).press.hourCount = s.press.hourCount ∧ (setTap v s).press.acc = s.press.acc ∧
    (setTap v s).press.wholeSpund = s.press.wholeSpund ∧ (setTap v s).press.eqMark = s.press.eqMark ∧
    (setTap v s).press.log = s.press.log ∧ (setTap v s).press.lastMode = s.press.lastMode ∧
    (setTap v s).press.lastP = s.press.lastP ∧ (setTap v s).press.lastT = s.press.lastT ∧
    (setTap v s).press.tHi = s.press.tHi ∧ (setTap v s).press.tLo = s.press.tLo := by
  simp only [setTap]
  (repeat' split) <;> simp

@[simp] theorem beginPour_keeps (t : Nat) (k : OrderKind) (r : Nat) (l : Option Nat) (m : Nat) (s : Station) :
    (beginPour t k r l m s).link.replies = s.link.replies ∧ (beginPour t k r l m s).link.tx = s.link.tx ∧
    (beginPour t k r l m s).link.mute = s.link.mute ∧ (beginPour t k r l m s).link.consec = s.link.consec ∧
    (beginPour t k r l m s).link.drops = s.link.drops ∧ (beginPour t k r l m s).link.rx = s.link.rx ∧
    (beginPour t k r l m s).link.errored = s.link.errored ∧
    (beginPour t k r l m s).link.overruns = s.link.overruns ∧
    (beginPour t k r l m s).link.idleSeen = s.link.idleSeen ∧ (beginPour t k r l m s).req.mask = s.req.mask ∧
    (beginPour t k r l m s).req.asm = s.req.asm ∧ (beginPour t k r l m s).req.abandoned = s.req.abandoned ∧
    (beginPour t k r l m s).req.restart = s.req.restart ∧ (beginPour t k r l m s).pour.freeze = s.pour.freeze ∧
    (beginPour t k r l m s).pour.serving = s.pour.serving ∧ (beginPour t k r l m s).prog.pair = s.prog.pair ∧
    (beginPour t k r l m s).prog.mismatch = s.prog.mismatch ∧ (beginPour t k r l m s).prog.vessel = s.prog.vessel ∧
    (beginPour t k r l m s).prog.leadHeard = s.prog.leadHeard ∧ (beginPour t k r l m s).prog.lastS = s.prog.lastS ∧
    (beginPour t k r l m s).prog.secs = s.prog.secs ∧ (beginPour t k r l m s).prog.inBandS = s.prog.inBandS ∧
    (beginPour t k r l m s).prog.cPrev = s.prog.cPrev ∧ (beginPour t k r l m s).prog.hPrev = s.prog.hPrev ∧
    (beginPour t k r l m s).prog.cycleOn = s.prog.cycleOn ∧
    (beginPour t k r l m s).prog.starveMs = s.prog.starveMs ∧ (beginPour t k r l m s).pools.peers = s.pools.peers ∧
    (beginPour t k r l m s).pools.isolated = s.pools.isolated ∧
    (beginPour t k r l m s).pools.silenceMs = s.pools.silenceMs ∧
    (beginPour t k r l m s).pools.overdrawHold = s.pools.overdrawHold ∧
    (beginPour t k r l m s).pools.backoffMs = s.pools.backoffMs ∧
    (beginPour t k r l m s).pools.overdraws = s.pools.overdraws := by
  simp only [beginPour]
  (repeat' split) <;> simp

@[simp] theorem startOrder_keeps (o : Order) (s : Station) :
    (startOrder o s).link.replies = s.link.replies ∧ (startOrder o s).link.tx = s.link.tx ∧
    (startOrder o s).link.mute = s.link.mute ∧ (startOrder o s).link.consec = s.link.consec ∧
    (startOrder o s).link.drops = s.link.drops ∧ (startOrder o s).link.rx = s.link.rx ∧
    (startOrder o s).link.errored = s.link.errored ∧ (startOrder o s).link.overruns = s.link.overruns ∧
    (startOrder o s).link.idleSeen = s.link.idleSeen ∧ (startOrder o s).req.mask = s.req.mask ∧
    (startOrder o s).req.asm = s.req.asm ∧ (startOrder o s).req.abandoned = s.req.abandoned ∧
    (startOrder o s).req.restart = s.req.restart ∧ (startOrder o s).pour.freeze = s.pour.freeze ∧
    (startOrder o s).pour.serving = s.pour.serving ∧ (startOrder o s).prog.pair = s.prog.pair ∧
    (startOrder o s).prog.mismatch = s.prog.mismatch ∧ (startOrder o s).prog.vessel = s.prog.vessel ∧
    (startOrder o s).prog.leadHeard = s.prog.leadHeard ∧ (startOrder o s).prog.lastS = s.prog.lastS ∧
    (startOrder o s).prog.secs = s.prog.secs ∧ (startOrder o s).prog.inBandS = s.prog.inBandS ∧
    (startOrder o s).prog.cPrev = s.prog.cPrev ∧ (startOrder o s).prog.hPrev = s.prog.hPrev ∧
    (startOrder o s).prog.cycleOn = s.prog.cycleOn ∧ (startOrder o s).prog.starveMs = s.prog.starveMs ∧
    (startOrder o s).pools.peers = s.pools.peers ∧ (startOrder o s).pools.isolated = s.pools.isolated ∧
    (startOrder o s).pools.silenceMs = s.pools.silenceMs ∧
    (startOrder o s).pools.overdrawHold = s.pools.overdrawHold ∧
    (startOrder o s).pools.backoffMs = s.pools.backoffMs ∧ (startOrder o s).pools.overdraws = s.pools.overdraws := by
  simp only [startOrder]
  (repeat' split) <;> simp

@[simp] theorem startManual_keeps (s : Station) :
    (startManual s).link.replies = s.link.replies ∧ (startManual s).link.tx = s.link.tx ∧
    (startManual s).link.mute = s.link.mute ∧ (startManual s).link.consec = s.link.consec ∧
    (startManual s).link.drops = s.link.drops ∧ (startManual s).link.rx = s.link.rx ∧
    (startManual s).link.errored = s.link.errored ∧ (startManual s).link.overruns = s.link.overruns ∧
    (startManual s).link.idleSeen = s.link.idleSeen ∧ (startManual s).req.mask = s.req.mask ∧
    (startManual s).req.asm = s.req.asm ∧ (startManual s).req.abandoned = s.req.abandoned ∧
    (startManual s).req.restart = s.req.restart ∧ (startManual s).pour.freeze = s.pour.freeze ∧
    (startManual s).pour.serving = s.pour.serving ∧ (startManual s).prog.pair = s.prog.pair ∧
    (startManual s).prog.mismatch = s.prog.mismatch ∧ (startManual s).prog.vessel = s.prog.vessel ∧
    (startManual s).prog.leadHeard = s.prog.leadHeard ∧ (startManual s).prog.lastS = s.prog.lastS ∧
    (startManual s).prog.secs = s.prog.secs ∧ (startManual s).prog.inBandS = s.prog.inBandS ∧
    (startManual s).prog.cPrev = s.prog.cPrev ∧ (startManual s).prog.hPrev = s.prog.hPrev ∧
    (startManual s).prog.cycleOn = s.prog.cycleOn ∧ (startManual s).prog.starveMs = s.prog.starveMs ∧
    (startManual s).pools.peers = s.pools.peers ∧ (startManual s).pools.isolated = s.pools.isolated ∧
    (startManual s).pools.silenceMs = s.pools.silenceMs ∧
    (startManual s).pools.overdrawHold = s.pools.overdrawHold ∧
    (startManual s).pools.backoffMs = s.pools.backoffMs ∧ (startManual s).pools.overdraws = s.pools.overdraws := by
  simp only [startManual]
  (repeat' split) <;> simp

@[simp] theorem testHead_keeps (s : Station) :
    (testHead s).link.replies = s.link.replies ∧ (testHead s).link.tx = s.link.tx ∧
    (testHead s).link.mute = s.link.mute ∧ (testHead s).link.consec = s.link.consec ∧
    (testHead s).link.drops = s.link.drops ∧ (testHead s).link.rx = s.link.rx ∧
    (testHead s).link.errored = s.link.errored ∧ (testHead s).link.overruns = s.link.overruns ∧
    (testHead s).link.idleSeen = s.link.idleSeen ∧ (testHead s).req.mask = s.req.mask ∧
    (testHead s).req.asm = s.req.asm ∧ (testHead s).req.abandoned = s.req.abandoned ∧
    (testHead s).req.restart = s.req.restart ∧ (testHead s).pour.freeze = s.pour.freeze ∧
    (testHead s).pour.serving = s.pour.serving ∧ (testHead s).prog.pair = s.prog.pair ∧
    (testHead s).prog.mismatch = s.prog.mismatch ∧ (testHead s).prog.vessel = s.prog.vessel ∧
    (testHead s).prog.leadHeard = s.prog.leadHeard ∧ (testHead s).prog.lastS = s.prog.lastS ∧
    (testHead s).prog.secs = s.prog.secs ∧ (testHead s).prog.inBandS = s.prog.inBandS ∧
    (testHead s).prog.cPrev = s.prog.cPrev ∧ (testHead s).prog.hPrev = s.prog.hPrev ∧
    (testHead s).prog.cycleOn = s.prog.cycleOn ∧ (testHead s).prog.starveMs = s.prog.starveMs ∧
    (testHead s).pools.peers = s.pools.peers ∧ (testHead s).pools.isolated = s.pools.isolated ∧
    (testHead s).pools.silenceMs = s.pools.silenceMs ∧ (testHead s).pools.overdrawHold = s.pools.overdrawHold ∧
    (testHead s).pools.backoffMs = s.pools.backoffMs ∧ (testHead s).pools.overdraws = s.pools.overdraws := by
  simp only [testHead]
  (repeat' split) <;> simp

@[simp] theorem placePourReport_keeps (r : PourReport) (s : Station) :
    (placePourReport r s).link.replies = s.link.replies ∧ (placePourReport r s).link.tx = s.link.tx ∧
    (placePourReport r s).link.mute = s.link.mute ∧ (placePourReport r s).link.consec = s.link.consec ∧
    (placePourReport r s).link.drops = s.link.drops ∧ (placePourReport r s).link.rx = s.link.rx ∧
    (placePourReport r s).link.errored = s.link.errored ∧ (placePourReport r s).link.overruns = s.link.overruns ∧
    (placePourReport r s).link.idleSeen = s.link.idleSeen ∧ (placePourReport r s).pour.freeze = s.pour.freeze ∧
    (placePourReport r s).pour.serving = s.pour.serving := by
  simp only [placePourReport]
  (repeat' split) <;> simp

@[simp] theorem completeUnstarted_keeps (x : PourOutcome) (o : Order) (s : Station) :
    (completeUnstarted x o s).link.replies = s.link.replies ∧ (completeUnstarted x o s).link.tx = s.link.tx ∧
    (completeUnstarted x o s).link.mute = s.link.mute ∧ (completeUnstarted x o s).link.consec = s.link.consec ∧
    (completeUnstarted x o s).link.drops = s.link.drops ∧ (completeUnstarted x o s).link.rx = s.link.rx ∧
    (completeUnstarted x o s).link.errored = s.link.errored ∧
    (completeUnstarted x o s).link.overruns = s.link.overruns ∧
    (completeUnstarted x o s).link.idleSeen = s.link.idleSeen ∧ (completeUnstarted x o s).req.mask = s.req.mask ∧
    (completeUnstarted x o s).req.asm = s.req.asm ∧ (completeUnstarted x o s).req.abandoned = s.req.abandoned ∧
    (completeUnstarted x o s).req.restart = s.req.restart ∧ (completeUnstarted x o s).pour.freeze = s.pour.freeze ∧
    (completeUnstarted x o s).pour.serving = s.pour.serving ∧ (completeUnstarted x o s).keg.loaded = s.keg.loaded ∧
    (completeUnstarted x o s).keg.tapLock = s.keg.tapLock ∧ (completeUnstarted x o s).prog.pair = s.prog.pair ∧
    (completeUnstarted x o s).prog.mismatch = s.prog.mismatch ∧
    (completeUnstarted x o s).prog.vessel = s.prog.vessel ∧
    (completeUnstarted x o s).prog.leadHeard = s.prog.leadHeard ∧
    (completeUnstarted x o s).prog.lastS = s.prog.lastS ∧ (completeUnstarted x o s).prog.secs = s.prog.secs ∧
    (completeUnstarted x o s).prog.inBandS = s.prog.inBandS ∧ (completeUnstarted x o s).prog.cPrev = s.prog.cPrev ∧
    (completeUnstarted x o s).prog.hPrev = s.prog.hPrev ∧ (completeUnstarted x o s).prog.cycleOn = s.prog.cycleOn ∧
    (completeUnstarted x o s).prog.starveMs = s.prog.starveMs ∧
    (completeUnstarted x o s).pools.peers = s.pools.peers ∧
    (completeUnstarted x o s).pools.isolated = s.pools.isolated ∧
    (completeUnstarted x o s).pools.silenceMs = s.pools.silenceMs ∧
    (completeUnstarted x o s).pools.overdrawHold = s.pools.overdrawHold ∧
    (completeUnstarted x o s).pools.backoffMs = s.pools.backoffMs ∧
    (completeUnstarted x o s).pools.overdraws = s.pools.overdraws := by
  simp only [completeUnstarted]
  (repeat' split) <;> simp

@[simp] theorem endQueued_keeps (x : PourOutcome) (s : Station) :
    (endQueued x s).link.replies = s.link.replies ∧ (endQueued x s).link.tx = s.link.tx ∧
    (endQueued x s).link.mute = s.link.mute ∧ (endQueued x s).link.consec = s.link.consec ∧
    (endQueued x s).link.drops = s.link.drops ∧ (endQueued x s).link.rx = s.link.rx ∧
    (endQueued x s).link.errored = s.link.errored ∧ (endQueued x s).link.overruns = s.link.overruns ∧
    (endQueued x s).link.idleSeen = s.link.idleSeen ∧ (endQueued x s).req.mask = s.req.mask ∧
    (endQueued x s).req.asm = s.req.asm ∧ (endQueued x s).req.abandoned = s.req.abandoned ∧
    (endQueued x s).req.restart = s.req.restart ∧ (endQueued x s).pour.freeze = s.pour.freeze ∧
    (endQueued x s).pour.serving = s.pour.serving ∧ (endQueued x s).keg.loaded = s.keg.loaded ∧
    (endQueued x s).keg.tapLock = s.keg.tapLock ∧ (endQueued x s).prog.pair = s.prog.pair ∧
    (endQueued x s).prog.mismatch = s.prog.mismatch ∧ (endQueued x s).prog.vessel = s.prog.vessel ∧
    (endQueued x s).prog.leadHeard = s.prog.leadHeard ∧ (endQueued x s).prog.lastS = s.prog.lastS ∧
    (endQueued x s).prog.secs = s.prog.secs ∧ (endQueued x s).prog.inBandS = s.prog.inBandS ∧
    (endQueued x s).prog.cPrev = s.prog.cPrev ∧ (endQueued x s).prog.hPrev = s.prog.hPrev ∧
    (endQueued x s).prog.cycleOn = s.prog.cycleOn ∧ (endQueued x s).prog.starveMs = s.prog.starveMs ∧
    (endQueued x s).pools.peers = s.pools.peers ∧ (endQueued x s).pools.isolated = s.pools.isolated ∧
    (endQueued x s).pools.silenceMs = s.pools.silenceMs ∧
    (endQueued x s).pools.overdrawHold = s.pools.overdrawHold ∧
    (endQueued x s).pools.backoffMs = s.pools.backoffMs ∧ (endQueued x s).pools.overdraws = s.pools.overdraws := by
  have h : ∀ (l : List Order) (s : Station),
      (l.foldl (fun s o => completeUnstarted x o s) s).link.replies = s.link.replies ∧
      (l.foldl (fun s o => completeUnstarted x o s) s).link.tx = s.link.tx ∧
      (l.foldl (fun s o => completeUnstarted x o s) s).link.mute = s.link.mute ∧
      (l.foldl (fun s o => completeUnstarted x o s) s).link.consec = s.link.consec ∧
      (l.foldl (fun s o => completeUnstarted x o s) s).link.drops = s.link.drops ∧
      (l.foldl (fun s o => completeUnstarted x o s) s).link.rx = s.link.rx ∧
      (l.foldl (fun s o => completeUnstarted x o s) s).link.errored = s.link.errored ∧
      (l.foldl (fun s o => completeUnstarted x o s) s).link.overruns = s.link.overruns ∧
      (l.foldl (fun s o => completeUnstarted x o s) s).link.idleSeen = s.link.idleSeen ∧
      (l.foldl (fun s o => completeUnstarted x o s) s).req.mask = s.req.mask ∧
      (l.foldl (fun s o => completeUnstarted x o s) s).req.asm = s.req.asm ∧
      (l.foldl (fun s o => completeUnstarted x o s) s).req.abandoned = s.req.abandoned ∧
      (l.foldl (fun s o => completeUnstarted x o s) s).req.restart = s.req.restart ∧
      (l.foldl (fun s o => completeUnstarted x o s) s).pour.freeze = s.pour.freeze ∧
      (l.foldl (fun s o => completeUnstarted x o s) s).pour.serving = s.pour.serving ∧
      (l.foldl (fun s o => completeUnstarted x o s) s).keg.loaded = s.keg.loaded ∧
      (l.foldl (fun s o => completeUnstarted x o s) s).keg.tapLock = s.keg.tapLock ∧
      (l.foldl (fun s o => completeUnstarted x o s) s).prog.pair = s.prog.pair ∧
      (l.foldl (fun s o => completeUnstarted x o s) s).prog.mismatch = s.prog.mismatch ∧
      (l.foldl (fun s o => completeUnstarted x o s) s).prog.vessel = s.prog.vessel ∧
      (l.foldl (fun s o => completeUnstarted x o s) s).prog.leadHeard = s.prog.leadHeard ∧
      (l.foldl (fun s o => completeUnstarted x o s) s).prog.lastS = s.prog.lastS ∧
      (l.foldl (fun s o => completeUnstarted x o s) s).prog.secs = s.prog.secs ∧
      (l.foldl (fun s o => completeUnstarted x o s) s).prog.inBandS = s.prog.inBandS ∧
      (l.foldl (fun s o => completeUnstarted x o s) s).prog.cPrev = s.prog.cPrev ∧
      (l.foldl (fun s o => completeUnstarted x o s) s).prog.hPrev = s.prog.hPrev ∧
      (l.foldl (fun s o => completeUnstarted x o s) s).prog.cycleOn = s.prog.cycleOn ∧
      (l.foldl (fun s o => completeUnstarted x o s) s).prog.starveMs = s.prog.starveMs ∧
      (l.foldl (fun s o => completeUnstarted x o s) s).pools.peers = s.pools.peers ∧
      (l.foldl (fun s o => completeUnstarted x o s) s).pools.isolated = s.pools.isolated ∧
      (l.foldl (fun s o => completeUnstarted x o s) s).pools.silenceMs = s.pools.silenceMs ∧
      (l.foldl (fun s o => completeUnstarted x o s) s).pools.overdrawHold = s.pools.overdrawHold ∧
      (l.foldl (fun s o => completeUnstarted x o s) s).pools.backoffMs = s.pools.backoffMs ∧
      (l.foldl (fun s o => completeUnstarted x o s) s).pools.overdraws = s.pools.overdraws := by
    intro l
    induction l with
    | nil => intro s; simp
    | cons o l ih => intro s; simp [ih]
  simp [endQueued, h]

@[simp] theorem declareEmpty_keeps (s : Station) :
    (declareEmpty s).link.replies = s.link.replies ∧ (declareEmpty s).link.tx = s.link.tx ∧
    (declareEmpty s).link.mute = s.link.mute ∧ (declareEmpty s).link.consec = s.link.consec ∧
    (declareEmpty s).link.drops = s.link.drops ∧ (declareEmpty s).link.rx = s.link.rx ∧
    (declareEmpty s).link.errored = s.link.errored ∧ (declareEmpty s).link.overruns = s.link.overruns ∧
    (declareEmpty s).link.idleSeen = s.link.idleSeen ∧ (declareEmpty s).req.mask = s.req.mask ∧
    (declareEmpty s).req.asm = s.req.asm ∧ (declareEmpty s).req.abandoned = s.req.abandoned ∧
    (declareEmpty s).req.restart = s.req.restart ∧ (declareEmpty s).pour.freeze = s.pour.freeze ∧
    (declareEmpty s).pour.serving = s.pour.serving ∧ (declareEmpty s).keg.loaded = s.keg.loaded ∧
    (declareEmpty s).keg.tapLock = s.keg.tapLock ∧ (declareEmpty s).prog.pair = s.prog.pair ∧
    (declareEmpty s).prog.mismatch = s.prog.mismatch ∧ (declareEmpty s).prog.vessel = s.prog.vessel ∧
    (declareEmpty s).prog.leadHeard = s.prog.leadHeard ∧ (declareEmpty s).prog.lastS = s.prog.lastS ∧
    (declareEmpty s).prog.secs = s.prog.secs ∧ (declareEmpty s).prog.inBandS = s.prog.inBandS ∧
    (declareEmpty s).prog.cPrev = s.prog.cPrev ∧ (declareEmpty s).prog.hPrev = s.prog.hPrev ∧
    (declareEmpty s).prog.cycleOn = s.prog.cycleOn ∧ (declareEmpty s).prog.starveMs = s.prog.starveMs ∧
    (declareEmpty s).pools.peers = s.pools.peers ∧ (declareEmpty s).pools.isolated = s.pools.isolated ∧
    (declareEmpty s).pools.silenceMs = s.pools.silenceMs ∧
    (declareEmpty s).pools.overdrawHold = s.pools.overdrawHold ∧
    (declareEmpty s).pools.backoffMs = s.pools.backoffMs ∧ (declareEmpty s).pools.overdraws = s.pools.overdraws := by
  simp only [declareEmpty]
  (repeat' split) <;> simp

@[simp] theorem foamRunAfter_keeps (d : DrainPour) (s : Station) :
    (foamRunAfter d s).link.replies = s.link.replies ∧ (foamRunAfter d s).link.tx = s.link.tx ∧
    (foamRunAfter d s).link.mute = s.link.mute ∧ (foamRunAfter d s).link.consec = s.link.consec ∧
    (foamRunAfter d s).link.drops = s.link.drops ∧ (foamRunAfter d s).link.rx = s.link.rx ∧
    (foamRunAfter d s).link.errored = s.link.errored ∧ (foamRunAfter d s).link.overruns = s.link.overruns ∧
    (foamRunAfter d s).link.idleSeen = s.link.idleSeen ∧ (foamRunAfter d s).req.mask = s.req.mask ∧
    (foamRunAfter d s).req.asm = s.req.asm ∧ (foamRunAfter d s).req.abandoned = s.req.abandoned ∧
    (foamRunAfter d s).req.restart = s.req.restart ∧ (foamRunAfter d s).pour.freeze = s.pour.freeze ∧
    (foamRunAfter d s).pour.serving = s.pour.serving ∧ (foamRunAfter d s).keg.loaded = s.keg.loaded ∧
    (foamRunAfter d s).keg.tapLock = s.keg.tapLock ∧ (foamRunAfter d s).prog.pair = s.prog.pair ∧
    (foamRunAfter d s).prog.mismatch = s.prog.mismatch ∧ (foamRunAfter d s).prog.vessel = s.prog.vessel ∧
    (foamRunAfter d s).prog.leadHeard = s.prog.leadHeard ∧ (foamRunAfter d s).prog.lastS = s.prog.lastS ∧
    (foamRunAfter d s).prog.secs = s.prog.secs ∧ (foamRunAfter d s).prog.inBandS = s.prog.inBandS ∧
    (foamRunAfter d s).prog.cPrev = s.prog.cPrev ∧ (foamRunAfter d s).prog.hPrev = s.prog.hPrev ∧
    (foamRunAfter d s).prog.cycleOn = s.prog.cycleOn ∧ (foamRunAfter d s).prog.starveMs = s.prog.starveMs ∧
    (foamRunAfter d s).pools.peers = s.pools.peers ∧ (foamRunAfter d s).pools.isolated = s.pools.isolated ∧
    (foamRunAfter d s).pools.silenceMs = s.pools.silenceMs ∧
    (foamRunAfter d s).pools.overdrawHold = s.pools.overdrawHold ∧
    (foamRunAfter d s).pools.backoffMs = s.pools.backoffMs ∧ (foamRunAfter d s).pools.overdraws = s.pools.overdraws := by
  simp only [foamRunAfter]
  (repeat' split) <;> simp

@[simp] theorem completePour_keeps (b : Bool) (d : DrainPour) (s : Station) :
    (completePour b d s).link.replies = s.link.replies ∧ (completePour b d s).link.tx = s.link.tx ∧
    (completePour b d s).link.mute = s.link.mute ∧ (completePour b d s).link.consec = s.link.consec ∧
    (completePour b d s).link.drops = s.link.drops ∧ (completePour b d s).link.rx = s.link.rx ∧
    (completePour b d s).link.errored = s.link.errored ∧ (completePour b d s).link.overruns = s.link.overruns ∧
    (completePour b d s).link.idleSeen = s.link.idleSeen ∧ (completePour b d s).req.mask = s.req.mask ∧
    (completePour b d s).req.asm = s.req.asm ∧ (completePour b d s).req.abandoned = s.req.abandoned ∧
    (completePour b d s).req.restart = s.req.restart ∧ (completePour b d s).pour.freeze = s.pour.freeze ∧
    (completePour b d s).pour.serving = s.pour.serving ∧ (completePour b d s).keg.loaded = s.keg.loaded ∧
    (completePour b d s).keg.tapLock = s.keg.tapLock ∧ (completePour b d s).prog.pair = s.prog.pair ∧
    (completePour b d s).prog.mismatch = s.prog.mismatch ∧ (completePour b d s).prog.vessel = s.prog.vessel ∧
    (completePour b d s).prog.leadHeard = s.prog.leadHeard ∧ (completePour b d s).prog.lastS = s.prog.lastS ∧
    (completePour b d s).prog.secs = s.prog.secs ∧ (completePour b d s).prog.inBandS = s.prog.inBandS ∧
    (completePour b d s).prog.cPrev = s.prog.cPrev ∧ (completePour b d s).prog.hPrev = s.prog.hPrev ∧
    (completePour b d s).prog.cycleOn = s.prog.cycleOn ∧ (completePour b d s).prog.starveMs = s.prog.starveMs ∧
    (completePour b d s).pools.peers = s.pools.peers ∧ (completePour b d s).pools.isolated = s.pools.isolated ∧
    (completePour b d s).pools.silenceMs = s.pools.silenceMs ∧
    (completePour b d s).pools.overdrawHold = s.pools.overdrawHold ∧
    (completePour b d s).pools.backoffMs = s.pools.backoffMs ∧
    (completePour b d s).pools.overdraws = s.pools.overdraws := by
  simp only [completePour]
  (repeat' split) <;> simp

@[simp] theorem closePour_keeps (x : PourOutcome) (s : Station) :
    (closePour x s).link.replies = s.link.replies ∧ (closePour x s).link.tx = s.link.tx ∧
    (closePour x s).link.mute = s.link.mute ∧ (closePour x s).link.consec = s.link.consec ∧
    (closePour x s).link.drops = s.link.drops ∧ (closePour x s).link.rx = s.link.rx ∧
    (closePour x s).link.errored = s.link.errored ∧ (closePour x s).link.overruns = s.link.overruns ∧
    (closePour x s).link.idleSeen = s.link.idleSeen ∧ (closePour x s).req.mask = s.req.mask ∧
    (closePour x s).req.asm = s.req.asm ∧ (closePour x s).req.abandoned = s.req.abandoned ∧
    (closePour x s).req.restart = s.req.restart ∧ (closePour x s).pour.freeze = s.pour.freeze ∧
    (closePour x s).pour.serving = s.pour.serving ∧ (closePour x s).keg.loaded = s.keg.loaded ∧
    (closePour x s).keg.tapLock = s.keg.tapLock ∧ (closePour x s).prog.pair = s.prog.pair ∧
    (closePour x s).prog.mismatch = s.prog.mismatch ∧ (closePour x s).prog.vessel = s.prog.vessel ∧
    (closePour x s).prog.leadHeard = s.prog.leadHeard ∧ (closePour x s).prog.lastS = s.prog.lastS ∧
    (closePour x s).prog.secs = s.prog.secs ∧ (closePour x s).prog.inBandS = s.prog.inBandS ∧
    (closePour x s).prog.cPrev = s.prog.cPrev ∧ (closePour x s).prog.hPrev = s.prog.hPrev ∧
    (closePour x s).prog.cycleOn = s.prog.cycleOn ∧ (closePour x s).prog.starveMs = s.prog.starveMs ∧
    (closePour x s).pools.peers = s.pools.peers ∧ (closePour x s).pools.isolated = s.pools.isolated ∧
    (closePour x s).pools.silenceMs = s.pools.silenceMs ∧
    (closePour x s).pools.overdrawHold = s.pools.overdrawHold ∧
    (closePour x s).pools.backoffMs = s.pools.backoffMs ∧ (closePour x s).pools.overdraws = s.pools.overdraws := by
  simp only [closePour]
  (repeat' split) <;> simp

@[simp] theorem meterClose_keeps (s : Station) :
    (meterClose s).link.replies = s.link.replies ∧ (meterClose s).link.tx = s.link.tx ∧
    (meterClose s).link.mute = s.link.mute ∧ (meterClose s).link.consec = s.link.consec ∧
    (meterClose s).link.drops = s.link.drops ∧ (meterClose s).link.rx = s.link.rx ∧
    (meterClose s).link.errored = s.link.errored ∧ (meterClose s).link.overruns = s.link.overruns ∧
    (meterClose s).link.idleSeen = s.link.idleSeen ∧ (meterClose s).req.mask = s.req.mask ∧
    (meterClose s).req.asm = s.req.asm ∧ (meterClose s).req.abandoned = s.req.abandoned ∧
    (meterClose s).req.restart = s.req.restart ∧ (meterClose s).pour.freeze = s.pour.freeze ∧
    (meterClose s).pour.serving = s.pour.serving ∧ (meterClose s).keg.loaded = s.keg.loaded ∧
    (meterClose s).keg.tapLock = s.keg.tapLock ∧ (meterClose s).prog.pair = s.prog.pair ∧
    (meterClose s).prog.mismatch = s.prog.mismatch ∧ (meterClose s).prog.vessel = s.prog.vessel ∧
    (meterClose s).prog.leadHeard = s.prog.leadHeard ∧ (meterClose s).prog.lastS = s.prog.lastS ∧
    (meterClose s).prog.secs = s.prog.secs ∧ (meterClose s).prog.inBandS = s.prog.inBandS ∧
    (meterClose s).prog.cPrev = s.prog.cPrev ∧ (meterClose s).prog.hPrev = s.prog.hPrev ∧
    (meterClose s).prog.cycleOn = s.prog.cycleOn ∧ (meterClose s).prog.starveMs = s.prog.starveMs ∧
    (meterClose s).pools.peers = s.pools.peers ∧ (meterClose s).pools.isolated = s.pools.isolated ∧
    (meterClose s).pools.silenceMs = s.pools.silenceMs ∧ (meterClose s).pools.overdrawHold = s.pools.overdrawHold ∧
    (meterClose s).pools.backoffMs = s.pools.backoffMs ∧ (meterClose s).pools.overdraws = s.pools.overdraws := by
  simp only [meterClose]
  (repeat' split) <;> simp

@[simp] theorem closeIn_keeps (st : Stage) (x : PourOutcome) (s : Station) :
    (closeIn st x s).link.replies = s.link.replies ∧ (closeIn st x s).link.tx = s.link.tx ∧
    (closeIn st x s).link.mute = s.link.mute ∧ (closeIn st x s).link.consec = s.link.consec ∧
    (closeIn st x s).link.drops = s.link.drops ∧ (closeIn st x s).link.rx = s.link.rx ∧
    (closeIn st x s).link.errored = s.link.errored ∧ (closeIn st x s).link.overruns = s.link.overruns ∧
    (closeIn st x s).link.idleSeen = s.link.idleSeen ∧ (closeIn st x s).req.mask = s.req.mask ∧
    (closeIn st x s).req.asm = s.req.asm ∧ (closeIn st x s).req.abandoned = s.req.abandoned ∧
    (closeIn st x s).req.restart = s.req.restart ∧ (closeIn st x s).pour.freeze = s.pour.freeze ∧
    (closeIn st x s).pour.serving = s.pour.serving ∧ (closeIn st x s).keg.loaded = s.keg.loaded ∧
    (closeIn st x s).keg.tapLock = s.keg.tapLock ∧ (closeIn st x s).prog.pair = s.prog.pair ∧
    (closeIn st x s).prog.mismatch = s.prog.mismatch ∧ (closeIn st x s).prog.vessel = s.prog.vessel ∧
    (closeIn st x s).prog.leadHeard = s.prog.leadHeard ∧ (closeIn st x s).prog.lastS = s.prog.lastS ∧
    (closeIn st x s).prog.secs = s.prog.secs ∧ (closeIn st x s).prog.inBandS = s.prog.inBandS ∧
    (closeIn st x s).prog.cPrev = s.prog.cPrev ∧ (closeIn st x s).prog.hPrev = s.prog.hPrev ∧
    (closeIn st x s).prog.cycleOn = s.prog.cycleOn ∧ (closeIn st x s).prog.starveMs = s.prog.starveMs ∧
    (closeIn st x s).pools.peers = s.pools.peers ∧ (closeIn st x s).pools.isolated = s.pools.isolated ∧
    (closeIn st x s).pools.silenceMs = s.pools.silenceMs ∧
    (closeIn st x s).pools.overdrawHold = s.pools.overdrawHold ∧
    (closeIn st x s).pools.backoffMs = s.pools.backoffMs ∧ (closeIn st x s).pools.overdraws = s.pools.overdraws := by
  simp only [closeIn]
  (repeat' split) <;> simp

@[simp] theorem primed_keeps (s : Station) :
    (primed s).link.replies = s.link.replies ∧ (primed s).link.tx = s.link.tx ∧
    (primed s).link.mute = s.link.mute ∧ (primed s).link.consec = s.link.consec ∧
    (primed s).link.drops = s.link.drops ∧ (primed s).link.rx = s.link.rx ∧
    (primed s).link.errored = s.link.errored ∧ (primed s).link.overruns = s.link.overruns ∧
    (primed s).link.idleSeen = s.link.idleSeen ∧ (primed s).req.mask = s.req.mask ∧
    (primed s).req.asm = s.req.asm ∧ (primed s).req.abandoned = s.req.abandoned ∧
    (primed s).req.restart = s.req.restart ∧ (primed s).pour.freeze = s.pour.freeze ∧
    (primed s).pour.serving = s.pour.serving ∧ (primed s).keg.loaded = s.keg.loaded ∧
    (primed s).keg.tapLock = s.keg.tapLock ∧ (primed s).prog.pair = s.prog.pair ∧
    (primed s).prog.mismatch = s.prog.mismatch ∧ (primed s).prog.vessel = s.prog.vessel ∧
    (primed s).prog.leadHeard = s.prog.leadHeard ∧ (primed s).prog.lastS = s.prog.lastS ∧
    (primed s).prog.secs = s.prog.secs ∧ (primed s).prog.inBandS = s.prog.inBandS ∧
    (primed s).prog.cPrev = s.prog.cPrev ∧ (primed s).prog.hPrev = s.prog.hPrev ∧
    (primed s).prog.cycleOn = s.prog.cycleOn ∧ (primed s).prog.starveMs = s.prog.starveMs ∧
    (primed s).pools.peers = s.pools.peers ∧ (primed s).pools.isolated = s.pools.isolated ∧
    (primed s).pools.silenceMs = s.pools.silenceMs ∧ (primed s).pools.overdrawHold = s.pools.overdrawHold ∧
    (primed s).pools.backoffMs = s.pools.backoffMs ∧ (primed s).pools.overdraws = s.pools.overdraws := by
  simp only [primed]
  (repeat' split) <;> simp

@[simp] theorem pourPressure_keeps (s : Station) :
    (pourPressure s).link.replies = s.link.replies ∧ (pourPressure s).link.tx = s.link.tx ∧
    (pourPressure s).link.mute = s.link.mute ∧ (pourPressure s).link.consec = s.link.consec ∧
    (pourPressure s).link.drops = s.link.drops ∧ (pourPressure s).link.rx = s.link.rx ∧
    (pourPressure s).link.errored = s.link.errored ∧ (pourPressure s).link.overruns = s.link.overruns ∧
    (pourPressure s).link.idleSeen = s.link.idleSeen ∧ (pourPressure s).req.mask = s.req.mask ∧
    (pourPressure s).req.asm = s.req.asm ∧ (pourPressure s).req.abandoned = s.req.abandoned ∧
    (pourPressure s).req.restart = s.req.restart ∧ (pourPressure s).pour.freeze = s.pour.freeze ∧
    (pourPressure s).pour.serving = s.pour.serving ∧ (pourPressure s).keg.loaded = s.keg.loaded ∧
    (pourPressure s).keg.tapLock = s.keg.tapLock ∧ (pourPressure s).prog.pair = s.prog.pair ∧
    (pourPressure s).prog.mismatch = s.prog.mismatch ∧ (pourPressure s).prog.vessel = s.prog.vessel ∧
    (pourPressure s).prog.leadHeard = s.prog.leadHeard ∧ (pourPressure s).prog.lastS = s.prog.lastS ∧
    (pourPressure s).prog.secs = s.prog.secs ∧ (pourPressure s).prog.inBandS = s.prog.inBandS ∧
    (pourPressure s).prog.cPrev = s.prog.cPrev ∧ (pourPressure s).prog.hPrev = s.prog.hPrev ∧
    (pourPressure s).prog.cycleOn = s.prog.cycleOn ∧ (pourPressure s).prog.starveMs = s.prog.starveMs := by
  simp only [pourPressure]
  (repeat' split) <;> simp

@[simp] theorem remeter_keeps (s : Station) :
    (remeter s).pour.freeze = s.pour.freeze ∧ (remeter s).pour.serving = s.pour.serving := by
  simp only [remeter]
  (repeat' split) <;> simp

@[simp] theorem flowPulse_keeps (w : Nat) (b : Bool) (s : Station) :
    (flowPulse w b s).link.replies = s.link.replies ∧ (flowPulse w b s).link.tx = s.link.tx ∧
    (flowPulse w b s).link.mute = s.link.mute ∧ (flowPulse w b s).link.consec = s.link.consec ∧
    (flowPulse w b s).link.drops = s.link.drops ∧ (flowPulse w b s).link.rx = s.link.rx ∧
    (flowPulse w b s).link.errored = s.link.errored ∧ (flowPulse w b s).link.overruns = s.link.overruns ∧
    (flowPulse w b s).link.idleSeen = s.link.idleSeen ∧ (flowPulse w b s).req.mask = s.req.mask ∧
    (flowPulse w b s).req.asm = s.req.asm ∧ (flowPulse w b s).req.abandoned = s.req.abandoned ∧
    (flowPulse w b s).req.restart = s.req.restart ∧ (flowPulse w b s).pour.freeze = s.pour.freeze ∧
    (flowPulse w b s).pour.serving = s.pour.serving ∧ (flowPulse w b s).keg.loaded = s.keg.loaded ∧
    (flowPulse w b s).keg.tapLock = s.keg.tapLock := by
  simp only [flowPulse]
  (repeat' split) <;> simp

@[simp] theorem foamStep_keeps (s : Station) :
    (foamStep s).pour.freeze = s.pour.freeze ∧ (foamStep s).pour.serving = s.pour.serving := by
  simp only [foamStep]
  (repeat' split) <;> simp

@[simp] theorem rateBin_keeps (s : Station) :
    (rateBin s).pour.freeze = s.pour.freeze ∧ (rateBin s).pour.serving = s.pour.serving := by
  simp only [rateBin]
  (repeat' split) <;> simp

@[simp] theorem foamOut_keeps (s : Station) :
    (foamOut s).link.replies = s.link.replies ∧ (foamOut s).link.tx = s.link.tx ∧
    (foamOut s).link.mute = s.link.mute ∧ (foamOut s).link.consec = s.link.consec ∧
    (foamOut s).link.drops = s.link.drops ∧ (foamOut s).link.rx = s.link.rx ∧
    (foamOut s).link.errored = s.link.errored ∧ (foamOut s).link.overruns = s.link.overruns ∧
    (foamOut s).link.idleSeen = s.link.idleSeen ∧ (foamOut s).req.mask = s.req.mask ∧
    (foamOut s).req.asm = s.req.asm ∧ (foamOut s).req.abandoned = s.req.abandoned ∧
    (foamOut s).req.restart = s.req.restart ∧ (foamOut s).pour.freeze = s.pour.freeze ∧
    (foamOut s).pour.serving = s.pour.serving ∧ (foamOut s).keg.loaded = s.keg.loaded ∧
    (foamOut s).keg.tapLock = s.keg.tapLock ∧ (foamOut s).prog.pair = s.prog.pair ∧
    (foamOut s).prog.mismatch = s.prog.mismatch ∧ (foamOut s).prog.vessel = s.prog.vessel ∧
    (foamOut s).prog.leadHeard = s.prog.leadHeard ∧ (foamOut s).prog.lastS = s.prog.lastS ∧
    (foamOut s).prog.secs = s.prog.secs ∧ (foamOut s).prog.inBandS = s.prog.inBandS ∧
    (foamOut s).prog.cPrev = s.prog.cPrev ∧ (foamOut s).prog.hPrev = s.prog.hPrev ∧
    (foamOut s).prog.cycleOn = s.prog.cycleOn ∧ (foamOut s).prog.starveMs = s.prog.starveMs := by
  simp only [foamOut]
  (repeat' split) <;> simp

@[simp] theorem limitOut_keeps (s : Station) :
    (limitOut s).link.replies = s.link.replies ∧ (limitOut s).link.tx = s.link.tx ∧
    (limitOut s).link.mute = s.link.mute ∧ (limitOut s).link.consec = s.link.consec ∧
    (limitOut s).link.drops = s.link.drops ∧ (limitOut s).link.rx = s.link.rx ∧
    (limitOut s).link.errored = s.link.errored ∧ (limitOut s).link.overruns = s.link.overruns ∧
    (limitOut s).link.idleSeen = s.link.idleSeen ∧ (limitOut s).req.mask = s.req.mask ∧
    (limitOut s).req.asm = s.req.asm ∧ (limitOut s).req.abandoned = s.req.abandoned ∧
    (limitOut s).req.restart = s.req.restart ∧ (limitOut s).pour.freeze = s.pour.freeze ∧
    (limitOut s).pour.serving = s.pour.serving ∧ (limitOut s).keg.loaded = s.keg.loaded ∧
    (limitOut s).keg.tapLock = s.keg.tapLock ∧ (limitOut s).prog.pair = s.prog.pair ∧
    (limitOut s).prog.mismatch = s.prog.mismatch ∧ (limitOut s).prog.vessel = s.prog.vessel ∧
    (limitOut s).prog.leadHeard = s.prog.leadHeard ∧ (limitOut s).prog.lastS = s.prog.lastS ∧
    (limitOut s).prog.secs = s.prog.secs ∧ (limitOut s).prog.inBandS = s.prog.inBandS ∧
    (limitOut s).prog.cPrev = s.prog.cPrev ∧ (limitOut s).prog.hPrev = s.prog.hPrev ∧
    (limitOut s).prog.cycleOn = s.prog.cycleOn ∧ (limitOut s).prog.starveMs = s.prog.starveMs := by
  simp only [limitOut]
  (repeat' split) <;> simp

@[simp] theorem drainOut_keeps (s : Station) :
    (drainOut s).link.replies = s.link.replies ∧ (drainOut s).link.tx = s.link.tx ∧
    (drainOut s).link.mute = s.link.mute ∧ (drainOut s).link.consec = s.link.consec ∧
    (drainOut s).link.drops = s.link.drops ∧ (drainOut s).link.rx = s.link.rx ∧
    (drainOut s).link.errored = s.link.errored ∧ (drainOut s).link.overruns = s.link.overruns ∧
    (drainOut s).link.idleSeen = s.link.idleSeen ∧ (drainOut s).req.mask = s.req.mask ∧
    (drainOut s).req.asm = s.req.asm ∧ (drainOut s).req.abandoned = s.req.abandoned ∧
    (drainOut s).req.restart = s.req.restart ∧ (drainOut s).pour.freeze = s.pour.freeze ∧
    (drainOut s).pour.serving = s.pour.serving ∧ (drainOut s).keg.loaded = s.keg.loaded ∧
    (drainOut s).keg.tapLock = s.keg.tapLock ∧ (drainOut s).prog.pair = s.prog.pair ∧
    (drainOut s).prog.mismatch = s.prog.mismatch ∧ (drainOut s).prog.vessel = s.prog.vessel ∧
    (drainOut s).prog.leadHeard = s.prog.leadHeard ∧ (drainOut s).prog.lastS = s.prog.lastS ∧
    (drainOut s).prog.secs = s.prog.secs ∧ (drainOut s).prog.inBandS = s.prog.inBandS ∧
    (drainOut s).prog.cPrev = s.prog.cPrev ∧ (drainOut s).prog.hPrev = s.prog.hPrev ∧
    (drainOut s).prog.cycleOn = s.prog.cycleOn ∧ (drainOut s).prog.starveMs = s.prog.starveMs := by
  simp only [drainOut]
  (repeat' split) <;> simp

@[simp] theorem takePress_keeps (s : Station) :
    (takePress s).link.replies = s.link.replies ∧ (takePress s).link.tx = s.link.tx ∧
    (takePress s).link.mute = s.link.mute ∧ (takePress s).link.consec = s.link.consec ∧
    (takePress s).link.drops = s.link.drops ∧ (takePress s).link.rx = s.link.rx ∧
    (takePress s).link.errored = s.link.errored ∧ (takePress s).link.overruns = s.link.overruns ∧
    (takePress s).link.idleSeen = s.link.idleSeen ∧ (takePress s).req.mask = s.req.mask ∧
    (takePress s).req.asm = s.req.asm ∧ (takePress s).req.abandoned = s.req.abandoned ∧
    (takePress s).req.restart = s.req.restart ∧ (takePress s).pour.freeze = s.pour.freeze ∧
    (takePress s).pour.serving = s.pour.serving ∧ (takePress s).keg.loaded = s.keg.loaded ∧
    (takePress s).keg.tapLock = s.keg.tapLock ∧ (takePress s).prog.pair = s.prog.pair ∧
    (takePress s).prog.mismatch = s.prog.mismatch ∧ (takePress s).prog.vessel = s.prog.vessel ∧
    (takePress s).prog.leadHeard = s.prog.leadHeard ∧ (takePress s).prog.lastS = s.prog.lastS ∧
    (takePress s).prog.secs = s.prog.secs ∧ (takePress s).prog.inBandS = s.prog.inBandS ∧
    (takePress s).prog.cPrev = s.prog.cPrev ∧ (takePress s).prog.hPrev = s.prog.hPrev ∧
    (takePress s).prog.cycleOn = s.prog.cycleOn ∧ (takePress s).prog.starveMs = s.prog.starveMs := by
  simp only [takePress]
  (repeat' split) <;> simp

@[simp] theorem handlePress_keeps (s : Station) :
    (handlePress s).link.replies = s.link.replies ∧ (handlePress s).link.tx = s.link.tx ∧
    (handlePress s).link.mute = s.link.mute ∧ (handlePress s).link.consec = s.link.consec ∧
    (handlePress s).link.drops = s.link.drops ∧ (handlePress s).link.rx = s.link.rx ∧
    (handlePress s).link.errored = s.link.errored ∧ (handlePress s).link.overruns = s.link.overruns ∧
    (handlePress s).link.idleSeen = s.link.idleSeen ∧ (handlePress s).req.mask = s.req.mask ∧
    (handlePress s).req.asm = s.req.asm ∧ (handlePress s).req.abandoned = s.req.abandoned ∧
    (handlePress s).req.restart = s.req.restart ∧ (handlePress s).pour.freeze = s.pour.freeze ∧
    (handlePress s).pour.serving = s.pour.serving ∧ (handlePress s).keg.loaded = s.keg.loaded ∧
    (handlePress s).keg.tapLock = s.keg.tapLock := by
  simp only [handlePress]
  (repeat' split) <;> simp

@[simp] theorem handleRelease_keeps (s : Station) :
    (handleRelease s).link.replies = s.link.replies ∧ (handleRelease s).link.tx = s.link.tx ∧
    (handleRelease s).link.mute = s.link.mute ∧ (handleRelease s).link.consec = s.link.consec ∧
    (handleRelease s).link.drops = s.link.drops ∧ (handleRelease s).link.rx = s.link.rx ∧
    (handleRelease s).link.errored = s.link.errored ∧ (handleRelease s).link.overruns = s.link.overruns ∧
    (handleRelease s).link.idleSeen = s.link.idleSeen ∧ (handleRelease s).req.mask = s.req.mask ∧
    (handleRelease s).req.asm = s.req.asm ∧ (handleRelease s).req.abandoned = s.req.abandoned ∧
    (handleRelease s).req.restart = s.req.restart ∧ (handleRelease s).pour.freeze = s.pour.freeze ∧
    (handleRelease s).pour.serving = s.pour.serving ∧ (handleRelease s).keg.loaded = s.keg.loaded ∧
    (handleRelease s).keg.tapLock = s.keg.tapLock := by
  simp only [handleRelease]
  (repeat' split) <;> simp

@[simp] theorem openEntry_keeps (k : FaultKind) (b : Bool) (s : Station) :
    (openEntry k b s).exc.conflict = s.exc.conflict ∧ (openEntry k b s).exc.peers = s.exc.peers := by
  simp only [openEntry]
  (repeat' split) <;> simp

@[simp] theorem closeEntry_keeps (s : Station) :
    (closeEntry s).exc.conflict = s.exc.conflict ∧ (closeEntry s).exc.peers = s.exc.peers := by
  simp only [closeEntry]
  (repeat' split) <;> simp

@[simp] theorem placeExcursion_keeps (s : Station) :
    (placeExcursion s).link.replies = s.link.replies ∧ (placeExcursion s).link.tx = s.link.tx ∧
    (placeExcursion s).link.mute = s.link.mute ∧ (placeExcursion s).link.consec = s.link.consec ∧
    (placeExcursion s).link.drops = s.link.drops ∧ (placeExcursion s).link.rx = s.link.rx ∧
    (placeExcursion s).link.errored = s.link.errored ∧ (placeExcursion s).link.overruns = s.link.overruns ∧
    (placeExcursion s).link.idleSeen = s.link.idleSeen := by
  simp only [placeExcursion]
  (repeat' split) <;> simp

@[simp] theorem writeRun_keeps (r : Bool) (s : Station) :
    (writeRun r s).keg.loaded = s.keg.loaded ∧ (writeRun r s).keg.tapLock = s.keg.tapLock := by
  simp only [writeRun]
  (repeat' split) <;> simp

@[simp] theorem overpressurePour_keeps (s : Station) :
    (overpressurePour s).link.replies = s.link.replies ∧ (overpressurePour s).link.tx = s.link.tx ∧
    (overpressurePour s).link.mute = s.link.mute ∧ (overpressurePour s).link.consec = s.link.consec ∧
    (overpressurePour s).link.drops = s.link.drops ∧ (overpressurePour s).link.rx = s.link.rx ∧
    (overpressurePour s).link.errored = s.link.errored ∧ (overpressurePour s).link.overruns = s.link.overruns ∧
    (overpressurePour s).link.idleSeen = s.link.idleSeen ∧ (overpressurePour s).req.mask = s.req.mask ∧
    (overpressurePour s).req.asm = s.req.asm ∧ (overpressurePour s).req.abandoned = s.req.abandoned ∧
    (overpressurePour s).req.restart = s.req.restart ∧ (overpressurePour s).pour.freeze = s.pour.freeze ∧
    (overpressurePour s).pour.serving = s.pour.serving ∧ (overpressurePour s).keg.loaded = s.keg.loaded ∧
    (overpressurePour s).keg.tapLock = s.keg.tapLock ∧ (overpressurePour s).prog.pair = s.prog.pair ∧
    (overpressurePour s).prog.mismatch = s.prog.mismatch ∧ (overpressurePour s).prog.vessel = s.prog.vessel ∧
    (overpressurePour s).prog.leadHeard = s.prog.leadHeard ∧ (overpressurePour s).prog.lastS = s.prog.lastS ∧
    (overpressurePour s).prog.secs = s.prog.secs ∧ (overpressurePour s).prog.inBandS = s.prog.inBandS ∧
    (overpressurePour s).prog.cPrev = s.prog.cPrev ∧ (overpressurePour s).prog.hPrev = s.prog.hPrev ∧
    (overpressurePour s).prog.cycleOn = s.prog.cycleOn ∧ (overpressurePour s).prog.starveMs = s.prog.starveMs ∧
    (overpressurePour s).pools.peers = s.pools.peers ∧ (overpressurePour s).pools.isolated = s.pools.isolated ∧
    (overpressurePour s).pools.silenceMs = s.pools.silenceMs ∧
    (overpressurePour s).pools.overdrawHold = s.pools.overdrawHold ∧
    (overpressurePour s).pools.backoffMs = s.pools.backoffMs ∧
    (overpressurePour s).pools.overdraws = s.pools.overdraws := by
  simp only [overpressurePour]
  (repeat' split) <;> simp

@[simp] theorem firstFault_keeps (k : FaultKind) (s : Station) :
    (firstFault k s).link.replies = s.link.replies ∧ (firstFault k s).link.tx = s.link.tx ∧
    (firstFault k s).link.mute = s.link.mute ∧ (firstFault k s).link.consec = s.link.consec ∧
    (firstFault k s).link.drops = s.link.drops ∧ (firstFault k s).link.rx = s.link.rx ∧
    (firstFault k s).link.errored = s.link.errored ∧ (firstFault k s).link.overruns = s.link.overruns ∧
    (firstFault k s).link.idleSeen = s.link.idleSeen ∧ (firstFault k s).req.mask = s.req.mask ∧
    (firstFault k s).req.asm = s.req.asm ∧ (firstFault k s).req.abandoned = s.req.abandoned ∧
    (firstFault k s).req.restart = s.req.restart ∧ (firstFault k s).pour.freeze = s.pour.freeze ∧
    (firstFault k s).exc.conflict = s.exc.conflict ∧ (firstFault k s).exc.peers = s.exc.peers ∧
    (firstFault k s).keg.loaded = s.keg.loaded ∧ (firstFault k s).keg.tapLock = s.keg.tapLock ∧
    (firstFault k s).prog.pair = s.prog.pair ∧ (firstFault k s).prog.mismatch = s.prog.mismatch ∧
    (firstFault k s).prog.vessel = s.prog.vessel ∧ (firstFault k s).prog.leadHeard = s.prog.leadHeard ∧
    (firstFault k s).prog.lastS = s.prog.lastS ∧ (firstFault k s).prog.secs = s.prog.secs ∧
    (firstFault k s).prog.inBandS = s.prog.inBandS ∧ (firstFault k s).prog.cPrev = s.prog.cPrev ∧
    (firstFault k s).prog.hPrev = s.prog.hPrev ∧ (firstFault k s).prog.cycleOn = s.prog.cycleOn ∧
    (firstFault k s).prog.starveMs = s.prog.starveMs ∧ (firstFault k s).pools.peers = s.pools.peers ∧
    (firstFault k s).pools.isolated = s.pools.isolated ∧ (firstFault k s).pools.silenceMs = s.pools.silenceMs ∧
    (firstFault k s).pools.overdrawHold = s.pools.overdrawHold ∧
    (firstFault k s).pools.backoffMs = s.pools.backoffMs ∧ (firstFault k s).pools.overdraws = s.pools.overdraws := by
  simp only [firstFault]
  (repeat' split) <;> simp

@[simp] theorem refreshHold_keeps (s : Station) :
    (refreshHold s).link.replies = s.link.replies ∧ (refreshHold s).link.tx = s.link.tx ∧
    (refreshHold s).link.mute = s.link.mute ∧ (refreshHold s).link.consec = s.link.consec ∧
    (refreshHold s).link.drops = s.link.drops ∧ (refreshHold s).link.rx = s.link.rx ∧
    (refreshHold s).link.errored = s.link.errored ∧ (refreshHold s).link.overruns = s.link.overruns ∧
    (refreshHold s).link.idleSeen = s.link.idleSeen ∧ (refreshHold s).req.mask = s.req.mask ∧
    (refreshHold s).req.asm = s.req.asm ∧ (refreshHold s).req.abandoned = s.req.abandoned ∧
    (refreshHold s).req.restart = s.req.restart ∧ (refreshHold s).pour.freeze = s.pour.freeze ∧
    (refreshHold s).pour.serving = s.pour.serving ∧ (refreshHold s).exc.conflict = s.exc.conflict ∧
    (refreshHold s).exc.peers = s.exc.peers ∧ (refreshHold s).keg.loaded = s.keg.loaded ∧
    (refreshHold s).keg.tapLock = s.keg.tapLock ∧ (refreshHold s).prog.pair = s.prog.pair ∧
    (refreshHold s).prog.mismatch = s.prog.mismatch ∧ (refreshHold s).prog.vessel = s.prog.vessel ∧
    (refreshHold s).prog.leadHeard = s.prog.leadHeard ∧ (refreshHold s).prog.lastS = s.prog.lastS ∧
    (refreshHold s).prog.secs = s.prog.secs ∧ (refreshHold s).prog.inBandS = s.prog.inBandS ∧
    (refreshHold s).prog.cPrev = s.prog.cPrev ∧ (refreshHold s).prog.hPrev = s.prog.hPrev ∧
    (refreshHold s).prog.cycleOn = s.prog.cycleOn ∧ (refreshHold s).prog.starveMs = s.prog.starveMs ∧
    (refreshHold s).pools.peers = s.pools.peers ∧ (refreshHold s).pools.isolated = s.pools.isolated ∧
    (refreshHold s).pools.silenceMs = s.pools.silenceMs ∧
    (refreshHold s).pools.overdrawHold = s.pools.overdrawHold ∧
    (refreshHold s).pools.backoffMs = s.pools.backoffMs ∧ (refreshHold s).pools.overdraws = s.pools.overdraws := by
  simp only [refreshHold]
  (repeat' split) <;> simp

@[simp] theorem lockoutEntry_keeps (k : FaultKind) (s : Station) :
    (lockoutEntry k s).link.replies = s.link.replies ∧ (lockoutEntry k s).link.tx = s.link.tx ∧
    (lockoutEntry k s).link.mute = s.link.mute ∧ (lockoutEntry k s).link.consec = s.link.consec ∧
    (lockoutEntry k s).link.drops = s.link.drops ∧ (lockoutEntry k s).link.rx = s.link.rx ∧
    (lockoutEntry k s).link.errored = s.link.errored ∧ (lockoutEntry k s).link.overruns = s.link.overruns ∧
    (lockoutEntry k s).link.idleSeen = s.link.idleSeen ∧ (lockoutEntry k s).req.mask = s.req.mask ∧
    (lockoutEntry k s).req.asm = s.req.asm ∧ (lockoutEntry k s).req.abandoned = s.req.abandoned ∧
    (lockoutEntry k s).req.restart = s.req.restart ∧ (lockoutEntry k s).pour.freeze = s.pour.freeze ∧
    (lockoutEntry k s).exc.conflict = s.exc.conflict ∧ (lockoutEntry k s).exc.peers = s.exc.peers ∧
    (lockoutEntry k s).keg.loaded = s.keg.loaded ∧ (lockoutEntry k s).keg.tapLock = s.keg.tapLock ∧
    (lockoutEntry k s).prog.pair = s.prog.pair ∧ (lockoutEntry k s).prog.mismatch = s.prog.mismatch ∧
    (lockoutEntry k s).prog.vessel = s.prog.vessel ∧ (lockoutEntry k s).prog.leadHeard = s.prog.leadHeard ∧
    (lockoutEntry k s).prog.lastS = s.prog.lastS ∧ (lockoutEntry k s).prog.secs = s.prog.secs ∧
    (lockoutEntry k s).prog.inBandS = s.prog.inBandS ∧ (lockoutEntry k s).prog.cPrev = s.prog.cPrev ∧
    (lockoutEntry k s).prog.hPrev = s.prog.hPrev ∧ (lockoutEntry k s).prog.cycleOn = s.prog.cycleOn ∧
    (lockoutEntry k s).prog.starveMs = s.prog.starveMs ∧ (lockoutEntry k s).pools.peers = s.pools.peers ∧
    (lockoutEntry k s).pools.isolated = s.pools.isolated ∧ (lockoutEntry k s).pools.silenceMs = s.pools.silenceMs ∧
    (lockoutEntry k s).pools.overdrawHold = s.pools.overdrawHold ∧
    (lockoutEntry k s).pools.backoffMs = s.pools.backoffMs ∧ (lockoutEntry k s).pools.overdraws = s.pools.overdraws := by
  simp only [lockoutEntry]
  (repeat' split) <;> simp

@[simp] theorem takeFault_keeps (k : FaultKind) (s : Station) :
    (takeFault k s).link.replies = s.link.replies ∧ (takeFault k s).link.tx = s.link.tx ∧
    (takeFault k s).link.mute = s.link.mute ∧ (takeFault k s).link.consec = s.link.consec ∧
    (takeFault k s).link.drops = s.link.drops ∧ (takeFault k s).link.rx = s.link.rx ∧
    (takeFault k s).link.errored = s.link.errored ∧ (takeFault k s).link.overruns = s.link.overruns ∧
    (takeFault k s).link.idleSeen = s.link.idleSeen ∧ (takeFault k s).req.mask = s.req.mask ∧
    (takeFault k s).req.asm = s.req.asm ∧ (takeFault k s).req.abandoned = s.req.abandoned ∧
    (takeFault k s).req.restart = s.req.restart ∧ (takeFault k s).pour.freeze = s.pour.freeze ∧
    (takeFault k s).exc.conflict = s.exc.conflict ∧ (takeFault k s).exc.peers = s.exc.peers ∧
    (takeFault k s).keg.loaded = s.keg.loaded ∧ (takeFault k s).keg.tapLock = s.keg.tapLock ∧
    (takeFault k s).prog.pair = s.prog.pair ∧ (takeFault k s).prog.mismatch = s.prog.mismatch ∧
    (takeFault k s).prog.vessel = s.prog.vessel ∧ (takeFault k s).prog.leadHeard = s.prog.leadHeard ∧
    (takeFault k s).prog.lastS = s.prog.lastS ∧ (takeFault k s).prog.secs = s.prog.secs ∧
    (takeFault k s).prog.inBandS = s.prog.inBandS ∧ (takeFault k s).prog.cPrev = s.prog.cPrev ∧
    (takeFault k s).prog.hPrev = s.prog.hPrev ∧ (takeFault k s).prog.cycleOn = s.prog.cycleOn ∧
    (takeFault k s).prog.starveMs = s.prog.starveMs ∧ (takeFault k s).pools.peers = s.pools.peers ∧
    (takeFault k s).pools.isolated = s.pools.isolated ∧ (takeFault k s).pools.silenceMs = s.pools.silenceMs ∧
    (takeFault k s).pools.overdrawHold = s.pools.overdrawHold ∧
    (takeFault k s).pools.backoffMs = s.pools.backoffMs ∧ (takeFault k s).pools.overdraws = s.pools.overdraws := by
  simp only [takeFault]
  (repeat' split) <;> simp

@[simp] theorem takeConflict_keeps (s : Station) :
    (takeConflict s).link.replies = s.link.replies ∧ (takeConflict s).link.tx = s.link.tx ∧
    (takeConflict s).link.mute = s.link.mute ∧ (takeConflict s).link.consec = s.link.consec ∧
    (takeConflict s).link.drops = s.link.drops ∧ (takeConflict s).link.rx = s.link.rx ∧
    (takeConflict s).link.errored = s.link.errored ∧ (takeConflict s).link.overruns = s.link.overruns ∧
    (takeConflict s).link.idleSeen = s.link.idleSeen ∧ (takeConflict s).req.mask = s.req.mask ∧
    (takeConflict s).req.asm = s.req.asm ∧ (takeConflict s).req.abandoned = s.req.abandoned ∧
    (takeConflict s).req.restart = s.req.restart ∧ (takeConflict s).pour.freeze = s.pour.freeze ∧
    (takeConflict s).exc.peers = s.exc.peers ∧ (takeConflict s).keg.loaded = s.keg.loaded ∧
    (takeConflict s).keg.tapLock = s.keg.tapLock ∧ (takeConflict s).prog.pair = s.prog.pair ∧
    (takeConflict s).prog.mismatch = s.prog.mismatch ∧ (takeConflict s).prog.vessel = s.prog.vessel ∧
    (takeConflict s).prog.leadHeard = s.prog.leadHeard ∧ (takeConflict s).prog.lastS = s.prog.lastS ∧
    (takeConflict s).prog.secs = s.prog.secs ∧ (takeConflict s).prog.inBandS = s.prog.inBandS ∧
    (takeConflict s).prog.cPrev = s.prog.cPrev ∧ (takeConflict s).prog.hPrev = s.prog.hPrev ∧
    (takeConflict s).prog.cycleOn = s.prog.cycleOn ∧ (takeConflict s).prog.starveMs = s.prog.starveMs ∧
    (takeConflict s).pools.peers = s.pools.peers ∧ (takeConflict s).pools.isolated = s.pools.isolated ∧
    (takeConflict s).pools.silenceMs = s.pools.silenceMs ∧
    (takeConflict s).pools.overdrawHold = s.pools.overdrawHold ∧
    (takeConflict s).pools.backoffMs = s.pools.backoffMs ∧ (takeConflict s).pools.overdraws = s.pools.overdraws := by
  simp only [takeConflict]
  (repeat' split) <;> simp

@[simp] theorem resumeStation_keeps (s : Station) :
    (resumeStation s).link.replies = s.link.replies ∧ (resumeStation s).link.tx = s.link.tx ∧
    (resumeStation s).link.mute = s.link.mute ∧ (resumeStation s).link.consec = s.link.consec ∧
    (resumeStation s).link.drops = s.link.drops ∧ (resumeStation s).link.rx = s.link.rx ∧
    (resumeStation s).link.errored = s.link.errored ∧ (resumeStation s).link.overruns = s.link.overruns ∧
    (resumeStation s).link.idleSeen = s.link.idleSeen ∧ (resumeStation s).req.mask = s.req.mask ∧
    (resumeStation s).req.asm = s.req.asm ∧ (resumeStation s).req.abandoned = s.req.abandoned ∧
    (resumeStation s).req.restart = s.req.restart ∧ (resumeStation s).pour.freeze = s.pour.freeze ∧
    (resumeStation s).exc.conflict = s.exc.conflict ∧ (resumeStation s).exc.peers = s.exc.peers ∧
    (resumeStation s).keg.loaded = s.keg.loaded ∧ (resumeStation s).keg.tapLock = s.keg.tapLock ∧
    (resumeStation s).prog.pair = s.prog.pair ∧ (resumeStation s).prog.mismatch = s.prog.mismatch ∧
    (resumeStation s).prog.vessel = s.prog.vessel ∧ (resumeStation s).prog.leadHeard = s.prog.leadHeard ∧
    (resumeStation s).prog.lastS = s.prog.lastS ∧ (resumeStation s).prog.secs = s.prog.secs ∧
    (resumeStation s).prog.inBandS = s.prog.inBandS ∧ (resumeStation s).prog.cPrev = s.prog.cPrev ∧
    (resumeStation s).prog.hPrev = s.prog.hPrev ∧ (resumeStation s).prog.cycleOn = s.prog.cycleOn ∧
    (resumeStation s).prog.starveMs = s.prog.starveMs ∧ (resumeStation s).pools.peers = s.pools.peers ∧
    (resumeStation s).pools.isolated = s.pools.isolated ∧ (resumeStation s).pools.silenceMs = s.pools.silenceMs ∧
    (resumeStation s).pools.overdrawHold = s.pools.overdrawHold ∧
    (resumeStation s).pools.backoffMs = s.pools.backoffMs ∧ (resumeStation s).pools.overdraws = s.pools.overdraws := by
  simp only [resumeStation]
  (repeat' split) <;> simp

@[simp] theorem setStanding_keeps (k : FaultKind) (v : Bool) (s : Station) :
    (setStanding k v s).exc.conflict = s.exc.conflict ∧ (setStanding k v s).exc.peers = s.exc.peers := by
  simp only [setStanding]
  (repeat' split) <;> simp

@[simp] theorem assertCond_keeps (k : FaultKind) (s : Station) :
    (assertCond k s).link.replies = s.link.replies ∧ (assertCond k s).link.tx = s.link.tx ∧
    (assertCond k s).link.mute = s.link.mute ∧ (assertCond k s).link.consec = s.link.consec ∧
    (assertCond k s).link.drops = s.link.drops ∧ (assertCond k s).link.rx = s.link.rx ∧
    (assertCond k s).link.errored = s.link.errored ∧ (assertCond k s).link.overruns = s.link.overruns ∧
    (assertCond k s).link.idleSeen = s.link.idleSeen ∧ (assertCond k s).req.mask = s.req.mask ∧
    (assertCond k s).req.asm = s.req.asm ∧ (assertCond k s).req.abandoned = s.req.abandoned ∧
    (assertCond k s).req.restart = s.req.restart ∧ (assertCond k s).pour.freeze = s.pour.freeze ∧
    (assertCond k s).exc.conflict = s.exc.conflict ∧ (assertCond k s).exc.peers = s.exc.peers ∧
    (assertCond k s).keg.loaded = s.keg.loaded ∧ (assertCond k s).keg.tapLock = s.keg.tapLock ∧
    (assertCond k s).prog.pair = s.prog.pair ∧ (assertCond k s).prog.mismatch = s.prog.mismatch ∧
    (assertCond k s).prog.vessel = s.prog.vessel ∧ (assertCond k s).prog.leadHeard = s.prog.leadHeard ∧
    (assertCond k s).prog.lastS = s.prog.lastS ∧ (assertCond k s).prog.secs = s.prog.secs ∧
    (assertCond k s).prog.inBandS = s.prog.inBandS ∧ (assertCond k s).prog.cPrev = s.prog.cPrev ∧
    (assertCond k s).prog.hPrev = s.prog.hPrev ∧ (assertCond k s).prog.cycleOn = s.prog.cycleOn ∧
    (assertCond k s).prog.starveMs = s.prog.starveMs ∧ (assertCond k s).pools.peers = s.pools.peers ∧
    (assertCond k s).pools.isolated = s.pools.isolated ∧ (assertCond k s).pools.silenceMs = s.pools.silenceMs ∧
    (assertCond k s).pools.overdrawHold = s.pools.overdrawHold ∧
    (assertCond k s).pools.backoffMs = s.pools.backoffMs ∧ (assertCond k s).pools.overdraws = s.pools.overdraws := by
  simp only [assertCond]
  (repeat' split) <;> simp

@[simp] theorem withdrawCond_keeps (k : FaultKind) (s : Station) :
    (withdrawCond k s).link.replies = s.link.replies ∧ (withdrawCond k s).link.tx = s.link.tx ∧
    (withdrawCond k s).link.mute = s.link.mute ∧ (withdrawCond k s).link.consec = s.link.consec ∧
    (withdrawCond k s).link.drops = s.link.drops ∧ (withdrawCond k s).link.rx = s.link.rx ∧
    (withdrawCond k s).link.errored = s.link.errored ∧ (withdrawCond k s).link.overruns = s.link.overruns ∧
    (withdrawCond k s).link.idleSeen = s.link.idleSeen ∧ (withdrawCond k s).req.mask = s.req.mask ∧
    (withdrawCond k s).req.asm = s.req.asm ∧ (withdrawCond k s).req.abandoned = s.req.abandoned ∧
    (withdrawCond k s).req.restart = s.req.restart ∧ (withdrawCond k s).pour.freeze = s.pour.freeze ∧
    (withdrawCond k s).exc.conflict = s.exc.conflict ∧ (withdrawCond k s).exc.peers = s.exc.peers ∧
    (withdrawCond k s).keg.loaded = s.keg.loaded ∧ (withdrawCond k s).keg.tapLock = s.keg.tapLock ∧
    (withdrawCond k s).prog.pair = s.prog.pair ∧ (withdrawCond k s).prog.mismatch = s.prog.mismatch ∧
    (withdrawCond k s).prog.vessel = s.prog.vessel ∧ (withdrawCond k s).prog.leadHeard = s.prog.leadHeard ∧
    (withdrawCond k s).prog.lastS = s.prog.lastS ∧ (withdrawCond k s).prog.secs = s.prog.secs ∧
    (withdrawCond k s).prog.inBandS = s.prog.inBandS ∧ (withdrawCond k s).prog.cPrev = s.prog.cPrev ∧
    (withdrawCond k s).prog.hPrev = s.prog.hPrev ∧ (withdrawCond k s).prog.cycleOn = s.prog.cycleOn ∧
    (withdrawCond k s).prog.starveMs = s.prog.starveMs ∧ (withdrawCond k s).pools.peers = s.pools.peers ∧
    (withdrawCond k s).pools.isolated = s.pools.isolated ∧ (withdrawCond k s).pools.silenceMs = s.pools.silenceMs ∧
    (withdrawCond k s).pools.overdrawHold = s.pools.overdrawHold ∧
    (withdrawCond k s).pools.backoffMs = s.pools.backoffMs ∧ (withdrawCond k s).pools.overdraws = s.pools.overdraws := by
  simp only [withdrawCond]
  (repeat' split) <;> simp

@[simp] theorem setCond_keeps (k : FaultKind) (v : Bool) (s : Station) :
    (setCond k v s).link.replies = s.link.replies ∧ (setCond k v s).link.tx = s.link.tx ∧
    (setCond k v s).link.mute = s.link.mute ∧ (setCond k v s).link.consec = s.link.consec ∧
    (setCond k v s).link.drops = s.link.drops ∧ (setCond k v s).link.rx = s.link.rx ∧
    (setCond k v s).link.errored = s.link.errored ∧ (setCond k v s).link.overruns = s.link.overruns ∧
    (setCond k v s).link.idleSeen = s.link.idleSeen ∧ (setCond k v s).req.mask = s.req.mask ∧
    (setCond k v s).req.asm = s.req.asm ∧ (setCond k v s).req.abandoned = s.req.abandoned ∧
    (setCond k v s).req.restart = s.req.restart ∧ (setCond k v s).pour.freeze = s.pour.freeze ∧
    (setCond k v s).exc.conflict = s.exc.conflict ∧ (setCond k v s).exc.peers = s.exc.peers ∧
    (setCond k v s).keg.loaded = s.keg.loaded ∧ (setCond k v s).keg.tapLock = s.keg.tapLock ∧
    (setCond k v s).prog.pair = s.prog.pair ∧ (setCond k v s).prog.mismatch = s.prog.mismatch ∧
    (setCond k v s).prog.vessel = s.prog.vessel ∧ (setCond k v s).prog.leadHeard = s.prog.leadHeard ∧
    (setCond k v s).prog.lastS = s.prog.lastS ∧ (setCond k v s).prog.secs = s.prog.secs ∧
    (setCond k v s).prog.inBandS = s.prog.inBandS ∧ (setCond k v s).prog.cPrev = s.prog.cPrev ∧
    (setCond k v s).prog.hPrev = s.prog.hPrev ∧ (setCond k v s).prog.cycleOn = s.prog.cycleOn ∧
    (setCond k v s).prog.starveMs = s.prog.starveMs ∧ (setCond k v s).pools.peers = s.pools.peers ∧
    (setCond k v s).pools.isolated = s.pools.isolated ∧ (setCond k v s).pools.silenceMs = s.pools.silenceMs ∧
    (setCond k v s).pools.overdrawHold = s.pools.overdrawHold ∧
    (setCond k v s).pools.backoffMs = s.pools.backoffMs ∧ (setCond k v s).pools.overdraws = s.pools.overdraws := by
  simp only [setCond]
  (repeat' split) <;> simp

@[simp] theorem takeStanding_keeps (s : Station) :
    (takeStanding s).link.replies = s.link.replies ∧ (takeStanding s).link.tx = s.link.tx ∧
    (takeStanding s).link.mute = s.link.mute ∧ (takeStanding s).link.consec = s.link.consec ∧
    (takeStanding s).link.drops = s.link.drops ∧ (takeStanding s).link.rx = s.link.rx ∧
    (takeStanding s).link.errored = s.link.errored ∧ (takeStanding s).link.overruns = s.link.overruns ∧
    (takeStanding s).link.idleSeen = s.link.idleSeen ∧ (takeStanding s).req.mask = s.req.mask ∧
    (takeStanding s).req.asm = s.req.asm ∧ (takeStanding s).req.abandoned = s.req.abandoned ∧
    (takeStanding s).req.restart = s.req.restart ∧ (takeStanding s).pour.freeze = s.pour.freeze ∧
    (takeStanding s).exc.conflict = s.exc.conflict ∧ (takeStanding s).exc.peers = s.exc.peers ∧
    (takeStanding s).keg.loaded = s.keg.loaded ∧ (takeStanding s).keg.tapLock = s.keg.tapLock ∧
    (takeStanding s).prog.pair = s.prog.pair ∧ (takeStanding s).prog.mismatch = s.prog.mismatch ∧
    (takeStanding s).prog.vessel = s.prog.vessel ∧ (takeStanding s).prog.leadHeard = s.prog.leadHeard ∧
    (takeStanding s).prog.lastS = s.prog.lastS ∧ (takeStanding s).prog.secs = s.prog.secs ∧
    (takeStanding s).prog.inBandS = s.prog.inBandS ∧ (takeStanding s).prog.cPrev = s.prog.cPrev ∧
    (takeStanding s).prog.hPrev = s.prog.hPrev ∧ (takeStanding s).prog.cycleOn = s.prog.cycleOn ∧
    (takeStanding s).prog.starveMs = s.prog.starveMs ∧ (takeStanding s).pools.peers = s.pools.peers ∧
    (takeStanding s).pools.isolated = s.pools.isolated ∧ (takeStanding s).pools.silenceMs = s.pools.silenceMs ∧
    (takeStanding s).pools.overdrawHold = s.pools.overdrawHold ∧
    (takeStanding s).pools.backoffMs = s.pools.backoffMs ∧ (takeStanding s).pools.overdraws = s.pools.overdraws := by
  simp only [takeStanding, List.foldl]
  (repeat' split) <;> simp

@[simp] theorem releaseStation_keeps (s : Station) :
    (releaseStation s).link.replies = s.link.replies ∧ (releaseStation s).link.tx = s.link.tx ∧
    (releaseStation s).link.mute = s.link.mute ∧ (releaseStation s).link.consec = s.link.consec ∧
    (releaseStation s).link.drops = s.link.drops ∧ (releaseStation s).link.rx = s.link.rx ∧
    (releaseStation s).link.errored = s.link.errored ∧ (releaseStation s).link.overruns = s.link.overruns ∧
    (releaseStation s).link.idleSeen = s.link.idleSeen ∧ (releaseStation s).req.mask = s.req.mask ∧
    (releaseStation s).req.asm = s.req.asm ∧ (releaseStation s).req.abandoned = s.req.abandoned ∧
    (releaseStation s).req.restart = s.req.restart ∧ (releaseStation s).pour.freeze = s.pour.freeze ∧
    (releaseStation s).exc.conflict = s.exc.conflict ∧ (releaseStation s).exc.peers = s.exc.peers ∧
    (releaseStation s).keg.loaded = s.keg.loaded ∧ (releaseStation s).keg.tapLock = s.keg.tapLock ∧
    (releaseStation s).prog.pair = s.prog.pair ∧ (releaseStation s).prog.mismatch = s.prog.mismatch ∧
    (releaseStation s).prog.vessel = s.prog.vessel ∧ (releaseStation s).prog.leadHeard = s.prog.leadHeard ∧
    (releaseStation s).prog.lastS = s.prog.lastS ∧ (releaseStation s).prog.secs = s.prog.secs ∧
    (releaseStation s).prog.inBandS = s.prog.inBandS ∧ (releaseStation s).prog.cPrev = s.prog.cPrev ∧
    (releaseStation s).prog.hPrev = s.prog.hPrev ∧ (releaseStation s).prog.cycleOn = s.prog.cycleOn ∧
    (releaseStation s).prog.starveMs = s.prog.starveMs ∧ (releaseStation s).pools.peers = s.pools.peers ∧
    (releaseStation s).pools.isolated = s.pools.isolated ∧ (releaseStation s).pools.silenceMs = s.pools.silenceMs ∧
    (releaseStation s).pools.overdrawHold = s.pools.overdrawHold ∧
    (releaseStation s).pools.backoffMs = s.pools.backoffMs ∧ (releaseStation s).pools.overdraws = s.pools.overdraws := by
  simp only [releaseStation]
  (repeat' split) <;> simp

@[simp] theorem clearanceOut_keeps (s : Station) :
    (clearanceOut s).link.replies = s.link.replies ∧ (clearanceOut s).link.tx = s.link.tx ∧
    (clearanceOut s).link.mute = s.link.mute ∧ (clearanceOut s).link.consec = s.link.consec ∧
    (clearanceOut s).link.drops = s.link.drops ∧ (clearanceOut s).link.rx = s.link.rx ∧
    (clearanceOut s).link.errored = s.link.errored ∧ (clearanceOut s).link.overruns = s.link.overruns ∧
    (clearanceOut s).link.idleSeen = s.link.idleSeen ∧ (clearanceOut s).req.mask = s.req.mask ∧
    (clearanceOut s).req.asm = s.req.asm ∧ (clearanceOut s).req.abandoned = s.req.abandoned ∧
    (clearanceOut s).req.restart = s.req.restart ∧ (clearanceOut s).pour.freeze = s.pour.freeze ∧
    (clearanceOut s).exc.conflict = s.exc.conflict ∧ (clearanceOut s).exc.peers = s.exc.peers ∧
    (clearanceOut s).keg.loaded = s.keg.loaded ∧ (clearanceOut s).keg.tapLock = s.keg.tapLock := by
  simp only [clearanceOut]
  (repeat' split) <;> simp

@[simp] theorem tempCheck_keeps (a : Bool) (s : Station) :
    (tempCheck a s).link.replies = s.link.replies ∧ (tempCheck a s).link.tx = s.link.tx ∧
    (tempCheck a s).link.mute = s.link.mute ∧ (tempCheck a s).link.consec = s.link.consec ∧
    (tempCheck a s).link.drops = s.link.drops ∧ (tempCheck a s).link.rx = s.link.rx ∧
    (tempCheck a s).link.errored = s.link.errored ∧ (tempCheck a s).link.overruns = s.link.overruns ∧
    (tempCheck a s).link.idleSeen = s.link.idleSeen ∧ (tempCheck a s).req.mask = s.req.mask ∧
    (tempCheck a s).req.asm = s.req.asm ∧ (tempCheck a s).req.abandoned = s.req.abandoned ∧
    (tempCheck a s).req.restart = s.req.restart ∧ (tempCheck a s).pour.freeze = s.pour.freeze ∧
    (tempCheck a s).exc.conflict = s.exc.conflict ∧ (tempCheck a s).exc.peers = s.exc.peers ∧
    (tempCheck a s).keg.loaded = s.keg.loaded ∧ (tempCheck a s).keg.tapLock = s.keg.tapLock ∧
    (tempCheck a s).prog.pair = s.prog.pair ∧ (tempCheck a s).prog.mismatch = s.prog.mismatch ∧
    (tempCheck a s).prog.vessel = s.prog.vessel ∧ (tempCheck a s).prog.leadHeard = s.prog.leadHeard ∧
    (tempCheck a s).prog.lastS = s.prog.lastS ∧ (tempCheck a s).prog.secs = s.prog.secs ∧
    (tempCheck a s).prog.inBandS = s.prog.inBandS ∧ (tempCheck a s).prog.cPrev = s.prog.cPrev ∧
    (tempCheck a s).prog.hPrev = s.prog.hPrev ∧ (tempCheck a s).prog.cycleOn = s.prog.cycleOn ∧
    (tempCheck a s).prog.starveMs = s.prog.starveMs ∧ (tempCheck a s).pools.peers = s.pools.peers ∧
    (tempCheck a s).pools.isolated = s.pools.isolated ∧ (tempCheck a s).pools.silenceMs = s.pools.silenceMs ∧
    (tempCheck a s).pools.overdrawHold = s.pools.overdrawHold ∧
    (tempCheck a s).pools.backoffMs = s.pools.backoffMs ∧ (tempCheck a s).pools.overdraws = s.pools.overdraws := by
  simp only [tempCheck]
  (repeat' split) <;> simp

@[simp] theorem overtempOut_keeps (s : Station) :
    (overtempOut s).link.replies = s.link.replies ∧ (overtempOut s).link.tx = s.link.tx ∧
    (overtempOut s).link.mute = s.link.mute ∧ (overtempOut s).link.consec = s.link.consec ∧
    (overtempOut s).link.drops = s.link.drops ∧ (overtempOut s).link.rx = s.link.rx ∧
    (overtempOut s).link.errored = s.link.errored ∧ (overtempOut s).link.overruns = s.link.overruns ∧
    (overtempOut s).link.idleSeen = s.link.idleSeen ∧ (overtempOut s).req.mask = s.req.mask ∧
    (overtempOut s).req.asm = s.req.asm ∧ (overtempOut s).req.abandoned = s.req.abandoned ∧
    (overtempOut s).req.restart = s.req.restart ∧ (overtempOut s).pour.freeze = s.pour.freeze ∧
    (overtempOut s).exc.conflict = s.exc.conflict ∧ (overtempOut s).exc.peers = s.exc.peers ∧
    (overtempOut s).keg.loaded = s.keg.loaded ∧ (overtempOut s).keg.tapLock = s.keg.tapLock := by
  simp only [overtempOut]
  (repeat' split) <;> simp

@[simp] theorem undertempOut_keeps (s : Station) :
    (undertempOut s).link.replies = s.link.replies ∧ (undertempOut s).link.tx = s.link.tx ∧
    (undertempOut s).link.mute = s.link.mute ∧ (undertempOut s).link.consec = s.link.consec ∧
    (undertempOut s).link.drops = s.link.drops ∧ (undertempOut s).link.rx = s.link.rx ∧
    (undertempOut s).link.errored = s.link.errored ∧ (undertempOut s).link.overruns = s.link.overruns ∧
    (undertempOut s).link.idleSeen = s.link.idleSeen ∧ (undertempOut s).req.mask = s.req.mask ∧
    (undertempOut s).req.asm = s.req.asm ∧ (undertempOut s).req.abandoned = s.req.abandoned ∧
    (undertempOut s).req.restart = s.req.restart ∧ (undertempOut s).pour.freeze = s.pour.freeze ∧
    (undertempOut s).exc.conflict = s.exc.conflict ∧ (undertempOut s).exc.peers = s.exc.peers ∧
    (undertempOut s).keg.loaded = s.keg.loaded ∧ (undertempOut s).keg.tapLock = s.keg.tapLock := by
  simp only [undertempOut]
  (repeat' split) <;> simp

@[simp] theorem leakTestOut_keeps (s : Station) :
    (leakTestOut s).link.replies = s.link.replies ∧ (leakTestOut s).link.tx = s.link.tx ∧
    (leakTestOut s).link.mute = s.link.mute ∧ (leakTestOut s).link.consec = s.link.consec ∧
    (leakTestOut s).link.drops = s.link.drops ∧ (leakTestOut s).link.rx = s.link.rx ∧
    (leakTestOut s).link.errored = s.link.errored ∧ (leakTestOut s).link.overruns = s.link.overruns ∧
    (leakTestOut s).link.idleSeen = s.link.idleSeen ∧ (leakTestOut s).req.mask = s.req.mask ∧
    (leakTestOut s).req.asm = s.req.asm ∧ (leakTestOut s).req.abandoned = s.req.abandoned ∧
    (leakTestOut s).req.restart = s.req.restart ∧ (leakTestOut s).pour.freeze = s.pour.freeze ∧
    (leakTestOut s).exc.conflict = s.exc.conflict ∧ (leakTestOut s).exc.peers = s.exc.peers ∧
    (leakTestOut s).keg.loaded = s.keg.loaded ∧ (leakTestOut s).keg.tapLock = s.keg.tapLock := by
  simp only [leakTestOut]
  (repeat' split) <;> simp

@[simp] theorem gasOpenOut_keeps (s : Station) :
    (gasOpenOut s).link.replies = s.link.replies ∧ (gasOpenOut s).link.tx = s.link.tx ∧
    (gasOpenOut s).link.mute = s.link.mute ∧ (gasOpenOut s).link.consec = s.link.consec ∧
    (gasOpenOut s).link.drops = s.link.drops ∧ (gasOpenOut s).link.rx = s.link.rx ∧
    (gasOpenOut s).link.errored = s.link.errored ∧ (gasOpenOut s).link.overruns = s.link.overruns ∧
    (gasOpenOut s).link.idleSeen = s.link.idleSeen ∧ (gasOpenOut s).req.mask = s.req.mask ∧
    (gasOpenOut s).req.asm = s.req.asm ∧ (gasOpenOut s).req.abandoned = s.req.abandoned ∧
    (gasOpenOut s).req.restart = s.req.restart ∧ (gasOpenOut s).pour.freeze = s.pour.freeze ∧
    (gasOpenOut s).exc.conflict = s.exc.conflict ∧ (gasOpenOut s).exc.peers = s.exc.peers ∧
    (gasOpenOut s).keg.loaded = s.keg.loaded ∧ (gasOpenOut s).keg.tapLock = s.keg.tapLock := by
  simp only [gasOpenOut]
  (repeat' split) <;> simp

@[simp] theorem overpressureCheck_keeps (s : Station) :
    (overpressureCheck s).link.replies = s.link.replies ∧ (overpressureCheck s).link.tx = s.link.tx ∧
    (overpressureCheck s).link.mute = s.link.mute ∧ (overpressureCheck s).link.consec = s.link.consec ∧
    (overpressureCheck s).link.drops = s.link.drops ∧ (overpressureCheck s).link.rx = s.link.rx ∧
    (overpressureCheck s).link.errored = s.link.errored ∧ (overpressureCheck s).link.overruns = s.link.overruns ∧
    (overpressureCheck s).link.idleSeen = s.link.idleSeen ∧ (overpressureCheck s).req.mask = s.req.mask ∧
    (overpressureCheck s).req.asm = s.req.asm ∧ (overpressureCheck s).req.abandoned = s.req.abandoned ∧
    (overpressureCheck s).req.restart = s.req.restart ∧ (overpressureCheck s).pour.freeze = s.pour.freeze ∧
    (overpressureCheck s).exc.conflict = s.exc.conflict ∧ (overpressureCheck s).exc.peers = s.exc.peers ∧
    (overpressureCheck s).keg.loaded = s.keg.loaded ∧ (overpressureCheck s).keg.tapLock = s.keg.tapLock := by
  simp only [overpressureCheck]
  (repeat' split) <;> simp

@[simp] theorem pressConversion_keeps (r : Option Int) (s : Station) :
    (pressConversion r s).link.replies = s.link.replies ∧ (pressConversion r s).link.tx = s.link.tx ∧
    (pressConversion r s).link.mute = s.link.mute ∧ (pressConversion r s).link.consec = s.link.consec ∧
    (pressConversion r s).link.drops = s.link.drops ∧ (pressConversion r s).link.rx = s.link.rx ∧
    (pressConversion r s).link.errored = s.link.errored ∧ (pressConversion r s).link.overruns = s.link.overruns ∧
    (pressConversion r s).link.idleSeen = s.link.idleSeen ∧ (pressConversion r s).req.mask = s.req.mask ∧
    (pressConversion r s).req.asm = s.req.asm ∧ (pressConversion r s).req.abandoned = s.req.abandoned ∧
    (pressConversion r s).req.restart = s.req.restart ∧ (pressConversion r s).pour.freeze = s.pour.freeze ∧
    (pressConversion r s).exc.conflict = s.exc.conflict ∧ (pressConversion r s).exc.peers = s.exc.peers ∧
    (pressConversion r s).keg.loaded = s.keg.loaded ∧ (pressConversion r s).keg.tapLock = s.keg.tapLock := by
  simp only [pressConversion]
  (repeat' split) <;> simp

@[simp] theorem probeSample_keeps (w : ProbeId) (c : Option Int) (s : Station) :
    (probeSample w c s).link.replies = s.link.replies ∧ (probeSample w c s).link.tx = s.link.tx ∧
    (probeSample w c s).link.mute = s.link.mute ∧ (probeSample w c s).link.consec = s.link.consec ∧
    (probeSample w c s).link.drops = s.link.drops ∧ (probeSample w c s).link.rx = s.link.rx ∧
    (probeSample w c s).link.errored = s.link.errored ∧ (probeSample w c s).link.overruns = s.link.overruns ∧
    (probeSample w c s).link.idleSeen = s.link.idleSeen ∧ (probeSample w c s).req.mask = s.req.mask ∧
    (probeSample w c s).req.asm = s.req.asm ∧ (probeSample w c s).req.abandoned = s.req.abandoned ∧
    (probeSample w c s).req.restart = s.req.restart ∧ (probeSample w c s).pour.freeze = s.pour.freeze ∧
    (probeSample w c s).exc.conflict = s.exc.conflict ∧ (probeSample w c s).exc.peers = s.exc.peers ∧
    (probeSample w c s).keg.loaded = s.keg.loaded ∧ (probeSample w c s).keg.tapLock = s.keg.tapLock := by
  simp only [probeSample]
  (repeat' split) <;> simp

@[simp] theorem probeHoldOut_keeps (w : ProbeId) (s : Station) :
    (probeHoldOut w s).link.replies = s.link.replies ∧ (probeHoldOut w s).link.tx = s.link.tx ∧
    (probeHoldOut w s).link.mute = s.link.mute ∧ (probeHoldOut w s).link.consec = s.link.consec ∧
    (probeHoldOut w s).link.drops = s.link.drops ∧ (probeHoldOut w s).link.rx = s.link.rx ∧
    (probeHoldOut w s).link.errored = s.link.errored ∧ (probeHoldOut w s).link.overruns = s.link.overruns ∧
    (probeHoldOut w s).link.idleSeen = s.link.idleSeen ∧ (probeHoldOut w s).req.mask = s.req.mask ∧
    (probeHoldOut w s).req.asm = s.req.asm ∧ (probeHoldOut w s).req.abandoned = s.req.abandoned ∧
    (probeHoldOut w s).req.restart = s.req.restart ∧ (probeHoldOut w s).pour.freeze = s.pour.freeze ∧
    (probeHoldOut w s).exc.conflict = s.exc.conflict ∧ (probeHoldOut w s).exc.peers = s.exc.peers ∧
    (probeHoldOut w s).keg.loaded = s.keg.loaded ∧ (probeHoldOut w s).keg.tapLock = s.keg.tapLock := by
  simp only [probeHoldOut]
  (repeat' split) <;> simp

@[simp] theorem endStep_keeps (b : Batch) (s : Station) :
    (endStep b s).link.replies = s.link.replies ∧ (endStep b s).link.tx = s.link.tx ∧
    (endStep b s).link.mute = s.link.mute ∧ (endStep b s).link.consec = s.link.consec ∧
    (endStep b s).link.drops = s.link.drops ∧ (endStep b s).link.rx = s.link.rx ∧
    (endStep b s).link.errored = s.link.errored ∧ (endStep b s).link.overruns = s.link.overruns ∧
    (endStep b s).link.idleSeen = s.link.idleSeen ∧ (endStep b s).req.mask = s.req.mask ∧
    (endStep b s).req.asm = s.req.asm ∧ (endStep b s).req.abandoned = s.req.abandoned ∧
    (endStep b s).req.restart = s.req.restart ∧ (endStep b s).keg.loaded = s.keg.loaded ∧
    (endStep b s).keg.tapLock = s.keg.tapLock := by
  simp only [endStep]
  (repeat' split) <;> simp

@[simp] theorem stepEnd_keeps (s : Station) :
    (stepEnd s).link.replies = s.link.replies ∧ (stepEnd s).link.tx = s.link.tx ∧
    (stepEnd s).link.mute = s.link.mute ∧ (stepEnd s).link.consec = s.link.consec ∧
    (stepEnd s).link.drops = s.link.drops ∧ (stepEnd s).link.rx = s.link.rx ∧
    (stepEnd s).link.errored = s.link.errored ∧ (stepEnd s).link.overruns = s.link.overruns ∧
    (stepEnd s).link.idleSeen = s.link.idleSeen ∧ (stepEnd s).req.mask = s.req.mask ∧
    (stepEnd s).req.asm = s.req.asm ∧ (stepEnd s).req.abandoned = s.req.abandoned ∧
    (stepEnd s).req.restart = s.req.restart ∧ (stepEnd s).pour.freeze = s.pour.freeze ∧
    (stepEnd s).exc.conflict = s.exc.conflict ∧ (stepEnd s).exc.peers = s.exc.peers ∧
    (stepEnd s).keg.loaded = s.keg.loaded ∧ (stepEnd s).keg.tapLock = s.keg.tapLock := by
  simp only [stepEnd, withSetpoint, withMode]
  (repeat' split) <;> simp

@[simp] theorem stepEndIf_keeps (c : Bool) (s : Station) :
    (stepEndIf c s).link.replies = s.link.replies ∧ (stepEndIf c s).link.tx = s.link.tx ∧
    (stepEndIf c s).link.mute = s.link.mute ∧ (stepEndIf c s).link.consec = s.link.consec ∧
    (stepEndIf c s).link.drops = s.link.drops ∧ (stepEndIf c s).link.rx = s.link.rx ∧
    (stepEndIf c s).link.errored = s.link.errored ∧ (stepEndIf c s).link.overruns = s.link.overruns ∧
    (stepEndIf c s).link.idleSeen = s.link.idleSeen ∧ (stepEndIf c s).req.mask = s.req.mask ∧
    (stepEndIf c s).req.asm = s.req.asm ∧ (stepEndIf c s).req.abandoned = s.req.abandoned ∧
    (stepEndIf c s).req.restart = s.req.restart ∧ (stepEndIf c s).pour.freeze = s.pour.freeze ∧
    (stepEndIf c s).exc.conflict = s.exc.conflict ∧ (stepEndIf c s).exc.peers = s.exc.peers ∧
    (stepEndIf c s).keg.loaded = s.keg.loaded ∧ (stepEndIf c s).keg.tapLock = s.keg.tapLock := by
  simp only [stepEndIf]
  (repeat' split) <;> simp

@[simp] theorem riseMinute_keeps (s : Station) :
    (riseMinute s).keg.loaded = s.keg.loaded ∧ (riseMinute s).keg.tapLock = s.keg.tapLock := by
  simp only [riseMinute]
  (repeat' split) <;> simp

@[simp] theorem stepMinute_keeps (s : Station) :
    (stepMinute s).link.replies = s.link.replies ∧ (stepMinute s).link.tx = s.link.tx ∧
    (stepMinute s).link.mute = s.link.mute ∧ (stepMinute s).link.consec = s.link.consec ∧
    (stepMinute s).link.drops = s.link.drops ∧ (stepMinute s).link.rx = s.link.rx ∧
    (stepMinute s).link.errored = s.link.errored ∧ (stepMinute s).link.overruns = s.link.overruns ∧
    (stepMinute s).link.idleSeen = s.link.idleSeen ∧ (stepMinute s).req.mask = s.req.mask ∧
    (stepMinute s).req.asm = s.req.asm ∧ (stepMinute s).req.abandoned = s.req.abandoned ∧
    (stepMinute s).req.restart = s.req.restart ∧ (stepMinute s).pour.freeze = s.pour.freeze ∧
    (stepMinute s).exc.conflict = s.exc.conflict ∧ (stepMinute s).exc.peers = s.exc.peers ∧
    (stepMinute s).keg.loaded = s.keg.loaded ∧ (stepMinute s).keg.tapLock = s.keg.tapLock := by
  simp only [stepMinute, withSetpoint]
  (repeat' split) <;> simp

@[simp] theorem crashInBand_keeps (s : Station) :
    (crashInBand s).link.replies = s.link.replies ∧ (crashInBand s).link.tx = s.link.tx ∧
    (crashInBand s).link.mute = s.link.mute ∧ (crashInBand s).link.consec = s.link.consec ∧
    (crashInBand s).link.drops = s.link.drops ∧ (crashInBand s).link.rx = s.link.rx ∧
    (crashInBand s).link.errored = s.link.errored ∧ (crashInBand s).link.overruns = s.link.overruns ∧
    (crashInBand s).link.idleSeen = s.link.idleSeen ∧ (crashInBand s).req.mask = s.req.mask ∧
    (crashInBand s).req.asm = s.req.asm ∧ (crashInBand s).req.abandoned = s.req.abandoned ∧
    (crashInBand s).req.restart = s.req.restart ∧ (crashInBand s).pour.freeze = s.pour.freeze ∧
    (crashInBand s).exc.conflict = s.exc.conflict ∧ (crashInBand s).exc.peers = s.exc.peers ∧
    (crashInBand s).keg.loaded = s.keg.loaded ∧ (crashInBand s).keg.tapLock = s.keg.tapLock := by
  simp only [crashInBand]
  (repeat' split) <;> simp

@[simp] theorem openBatch_keeps (b : Batch) (s : Station) :
    (openBatch b s).link.replies = s.link.replies ∧ (openBatch b s).link.tx = s.link.tx ∧
    (openBatch b s).link.mute = s.link.mute ∧ (openBatch b s).link.consec = s.link.consec ∧
    (openBatch b s).link.drops = s.link.drops ∧ (openBatch b s).link.rx = s.link.rx ∧
    (openBatch b s).link.errored = s.link.errored ∧ (openBatch b s).link.overruns = s.link.overruns ∧
    (openBatch b s).link.idleSeen = s.link.idleSeen ∧ (openBatch b s).req.mask = s.req.mask ∧
    (openBatch b s).req.asm = s.req.asm ∧ (openBatch b s).req.abandoned = s.req.abandoned ∧
    (openBatch b s).req.restart = s.req.restart ∧ (openBatch b s).pour.freeze = s.pour.freeze ∧
    (openBatch b s).pour.serving = s.pour.serving ∧ (openBatch b s).exc.conflict = s.exc.conflict ∧
    (openBatch b s).exc.peers = s.exc.peers ∧ (openBatch b s).keg.loaded = s.keg.loaded ∧
    (openBatch b s).keg.tapLock = s.keg.tapLock := by
  simp only [openBatch]
  (repeat' split) <;> simp

@[simp] theorem startBatch_keeps (b : Batch) (s : Station) :
    (startBatch b s).link.replies = s.link.replies ∧ (startBatch b s).link.tx = s.link.tx ∧
    (startBatch b s).link.mute = s.link.mute ∧ (startBatch b s).link.consec = s.link.consec ∧
    (startBatch b s).link.drops = s.link.drops ∧ (startBatch b s).link.rx = s.link.rx ∧
    (startBatch b s).link.errored = s.link.errored ∧ (startBatch b s).link.overruns = s.link.overruns ∧
    (startBatch b s).link.idleSeen = s.link.idleSeen ∧ (startBatch b s).req.mask = s.req.mask ∧
    (startBatch b s).req.asm = s.req.asm ∧ (startBatch b s).req.abandoned = s.req.abandoned ∧
    (startBatch b s).req.restart = s.req.restart ∧ (startBatch b s).pour.freeze = s.pour.freeze ∧
    (startBatch b s).exc.conflict = s.exc.conflict ∧ (startBatch b s).exc.peers = s.exc.peers ∧
    (startBatch b s).keg.loaded = s.keg.loaded ∧ (startBatch b s).keg.tapLock = s.keg.tapLock := by
  simp only [startBatch, withSetpoint, withMode]
  (repeat' split) <;> simp

@[simp] theorem dropBatch_keeps (b : Bool) (s : Station) :
    (dropBatch b s).link.replies = s.link.replies ∧ (dropBatch b s).link.tx = s.link.tx ∧
    (dropBatch b s).link.mute = s.link.mute ∧ (dropBatch b s).link.consec = s.link.consec ∧
    (dropBatch b s).link.drops = s.link.drops ∧ (dropBatch b s).link.rx = s.link.rx ∧
    (dropBatch b s).link.errored = s.link.errored ∧ (dropBatch b s).link.overruns = s.link.overruns ∧
    (dropBatch b s).link.idleSeen = s.link.idleSeen ∧ (dropBatch b s).req.mask = s.req.mask ∧
    (dropBatch b s).req.asm = s.req.asm ∧ (dropBatch b s).req.abandoned = s.req.abandoned ∧
    (dropBatch b s).req.restart = s.req.restart ∧ (dropBatch b s).keg.loaded = s.keg.loaded ∧
    (dropBatch b s).keg.tapLock = s.keg.tapLock := by
  simp only [dropBatch]
  (repeat' split) <;> simp

@[simp] theorem closeBatch_keeps (b : Bool) (s : Station) :
    (closeBatch b s).link.replies = s.link.replies ∧ (closeBatch b s).link.tx = s.link.tx ∧
    (closeBatch b s).link.mute = s.link.mute ∧ (closeBatch b s).link.consec = s.link.consec ∧
    (closeBatch b s).link.drops = s.link.drops ∧ (closeBatch b s).link.rx = s.link.rx ∧
    (closeBatch b s).link.errored = s.link.errored ∧ (closeBatch b s).link.overruns = s.link.overruns ∧
    (closeBatch b s).link.idleSeen = s.link.idleSeen ∧ (closeBatch b s).req.mask = s.req.mask ∧
    (closeBatch b s).req.asm = s.req.asm ∧ (closeBatch b s).req.abandoned = s.req.abandoned ∧
    (closeBatch b s).req.restart = s.req.restart ∧ (closeBatch b s).pour.freeze = s.pour.freeze ∧
    (closeBatch b s).exc.conflict = s.exc.conflict ∧ (closeBatch b s).exc.peers = s.exc.peers ∧
    (closeBatch b s).keg.loaded = s.keg.loaded ∧ (closeBatch b s).keg.tapLock = s.keg.tapLock := by
  simp only [closeBatch, withSetpoint, withMode]
  (repeat' split) <;> simp

@[simp] theorem inBand_keeps (s : Station) :
    (inBand s).link.replies = s.link.replies ∧ (inBand s).link.tx = s.link.tx ∧
    (inBand s).link.mute = s.link.mute ∧ (inBand s).link.consec = s.link.consec ∧
    (inBand s).link.drops = s.link.drops ∧ (inBand s).link.rx = s.link.rx ∧
    (inBand s).link.errored = s.link.errored ∧ (inBand s).link.overruns = s.link.overruns ∧
    (inBand s).link.idleSeen = s.link.idleSeen ∧ (inBand s).req.mask = s.req.mask ∧
    (inBand s).req.asm = s.req.asm ∧ (inBand s).req.abandoned = s.req.abandoned ∧
    (inBand s).req.restart = s.req.restart := by
  simp only [inBand]
  (repeat' split) <;> simp

@[simp] theorem controlPeriod_keeps (s : Station) :
    (controlPeriod s).link.replies = s.link.replies ∧ (controlPeriod s).link.tx = s.link.tx ∧
    (controlPeriod s).link.mute = s.link.mute ∧ (controlPeriod s).link.consec = s.link.consec ∧
    (controlPeriod s).link.drops = s.link.drops ∧ (controlPeriod s).link.rx = s.link.rx ∧
    (controlPeriod s).link.errored = s.link.errored ∧ (controlPeriod s).link.overruns = s.link.overruns ∧
    (controlPeriod s).link.idleSeen = s.link.idleSeen ∧ (controlPeriod s).req.mask = s.req.mask ∧
    (controlPeriod s).req.asm = s.req.asm ∧ (controlPeriod s).req.abandoned = s.req.abandoned ∧
    (controlPeriod s).req.restart = s.req.restart ∧ (controlPeriod s).pour.freeze = s.pour.freeze ∧
    (controlPeriod s).exc.conflict = s.exc.conflict ∧ (controlPeriod s).exc.peers = s.exc.peers ∧
    (controlPeriod s).keg.loaded = s.keg.loaded ∧ (controlPeriod s).keg.tapLock = s.keg.tapLock := by
  simp only [controlPeriod, withSetpoint]
  (repeat' split) <;> simp

@[simp] theorem pourRequests_keeps (s : Station) :
    (pourRequests s).link.replies = s.link.replies ∧ (pourRequests s).link.tx = s.link.tx ∧
    (pourRequests s).link.mute = s.link.mute ∧ (pourRequests s).link.consec = s.link.consec ∧
    (pourRequests s).link.drops = s.link.drops ∧ (pourRequests s).link.rx = s.link.rx ∧
    (pourRequests s).link.errored = s.link.errored ∧ (pourRequests s).link.overruns = s.link.overruns ∧
    (pourRequests s).link.idleSeen = s.link.idleSeen ∧ (pourRequests s).req.mask = s.req.mask ∧
    (pourRequests s).req.asm = s.req.asm ∧ (pourRequests s).req.abandoned = s.req.abandoned ∧
    (pourRequests s).req.restart = s.req.restart ∧ (pourRequests s).pour.freeze = s.pour.freeze ∧
    (pourRequests s).pour.serving = s.pour.serving ∧ (pourRequests s).keg.loaded = s.keg.loaded ∧
    (pourRequests s).keg.tapLock = s.keg.tapLock := by
  simp only [pourRequests]
  (repeat' split) <;> simp

@[simp] theorem pressDecisions_keeps (s : Station) :
    (pressDecisions s).link.replies = s.link.replies ∧ (pressDecisions s).link.tx = s.link.tx ∧
    (pressDecisions s).link.mute = s.link.mute ∧ (pressDecisions s).link.consec = s.link.consec ∧
    (pressDecisions s).link.drops = s.link.drops ∧ (pressDecisions s).link.rx = s.link.rx ∧
    (pressDecisions s).link.errored = s.link.errored ∧ (pressDecisions s).link.overruns = s.link.overruns ∧
    (pressDecisions s).link.idleSeen = s.link.idleSeen ∧ (pressDecisions s).req.mask = s.req.mask ∧
    (pressDecisions s).req.asm = s.req.asm ∧ (pressDecisions s).req.abandoned = s.req.abandoned ∧
    (pressDecisions s).req.restart = s.req.restart ∧ (pressDecisions s).pour.freeze = s.pour.freeze ∧
    (pressDecisions s).pour.serving = s.pour.serving ∧ (pressDecisions s).keg.loaded = s.keg.loaded ∧
    (pressDecisions s).keg.tapLock = s.keg.tapLock := by
  simp only [pressDecisions]
  (repeat' split) <;> simp

@[simp] theorem pressPeriod_keeps (s : Station) :
    (pressPeriod s).link.replies = s.link.replies ∧ (pressPeriod s).link.tx = s.link.tx ∧
    (pressPeriod s).link.mute = s.link.mute ∧ (pressPeriod s).link.consec = s.link.consec ∧
    (pressPeriod s).link.drops = s.link.drops ∧ (pressPeriod s).link.rx = s.link.rx ∧
    (pressPeriod s).link.errored = s.link.errored ∧ (pressPeriod s).link.overruns = s.link.overruns ∧
    (pressPeriod s).link.idleSeen = s.link.idleSeen ∧ (pressPeriod s).req.mask = s.req.mask ∧
    (pressPeriod s).req.asm = s.req.asm ∧ (pressPeriod s).req.abandoned = s.req.abandoned ∧
    (pressPeriod s).req.restart = s.req.restart ∧ (pressPeriod s).pour.freeze = s.pour.freeze ∧
    (pressPeriod s).pour.serving = s.pour.serving ∧ (pressPeriod s).keg.loaded = s.keg.loaded ∧
    (pressPeriod s).keg.tapLock = s.keg.tapLock := by
  simp only [pressPeriod]
  (repeat' split) <;> simp

@[simp] theorem writeEstimate_keeps (s : Station) :
    (writeEstimate s).keg.loaded = s.keg.loaded ∧ (writeEstimate s).keg.tapLock = s.keg.tapLock := by
  simp only [writeEstimate]
  (repeat' split) <;> simp

@[simp] theorem logHour_keeps (s : Station) :
    (logHour s).link.replies = s.link.replies ∧ (logHour s).link.tx = s.link.tx ∧
    (logHour s).link.mute = s.link.mute ∧ (logHour s).link.consec = s.link.consec ∧
    (logHour s).link.drops = s.link.drops ∧ (logHour s).link.rx = s.link.rx ∧
    (logHour s).link.errored = s.link.errored ∧ (logHour s).link.overruns = s.link.overruns ∧
    (logHour s).link.idleSeen = s.link.idleSeen ∧ (logHour s).req.mask = s.req.mask ∧
    (logHour s).req.asm = s.req.asm ∧ (logHour s).req.abandoned = s.req.abandoned ∧
    (logHour s).req.restart = s.req.restart ∧ (logHour s).pour.freeze = s.pour.freeze ∧
    (logHour s).exc.conflict = s.exc.conflict ∧ (logHour s).exc.peers = s.exc.peers ∧
    (logHour s).keg.loaded = s.keg.loaded ∧ (logHour s).keg.tapLock = s.keg.tapLock := by
  simp only [logHour]
  (repeat' split) <;> simp

@[simp] theorem hourEnd_keeps (s : Station) :
    (hourEnd s).link.replies = s.link.replies ∧ (hourEnd s).link.tx = s.link.tx ∧
    (hourEnd s).link.mute = s.link.mute ∧ (hourEnd s).link.consec = s.link.consec ∧
    (hourEnd s).link.drops = s.link.drops ∧ (hourEnd s).link.rx = s.link.rx ∧
    (hourEnd s).link.errored = s.link.errored ∧ (hourEnd s).link.overruns = s.link.overruns ∧
    (hourEnd s).link.idleSeen = s.link.idleSeen ∧ (hourEnd s).req.mask = s.req.mask ∧
    (hourEnd s).req.asm = s.req.asm ∧ (hourEnd s).req.abandoned = s.req.abandoned ∧
    (hourEnd s).req.restart = s.req.restart ∧ (hourEnd s).pour.freeze = s.pour.freeze ∧
    (hourEnd s).exc.conflict = s.exc.conflict ∧ (hourEnd s).exc.peers = s.exc.peers ∧
    (hourEnd s).keg.loaded = s.keg.loaded ∧ (hourEnd s).keg.tapLock = s.keg.tapLock := by
  simp only [hourEnd]
  (repeat' split) <;> simp

@[simp] theorem latchKeg_keeps (s : Station) :
    (latchKeg s).link.replies = s.link.replies ∧ (latchKeg s).link.tx = s.link.tx ∧
    (latchKeg s).link.mute = s.link.mute ∧ (latchKeg s).link.consec = s.link.consec ∧
    (latchKeg s).link.drops = s.link.drops ∧ (latchKeg s).link.rx = s.link.rx ∧
    (latchKeg s).link.errored = s.link.errored ∧ (latchKeg s).link.overruns = s.link.overruns ∧
    (latchKeg s).link.idleSeen = s.link.idleSeen ∧ (latchKeg s).req.mask = s.req.mask ∧
    (latchKeg s).req.asm = s.req.asm ∧ (latchKeg s).req.abandoned = s.req.abandoned ∧
    (latchKeg s).req.restart = s.req.restart := by
  simp only [latchKeg]
  (repeat' split) <;> simp

@[simp] theorem kegIn_keeps (s : Station) :
    (kegIn s).link.replies = s.link.replies ∧ (kegIn s).link.tx = s.link.tx ∧ (kegIn s).link.mute = s.link.mute ∧
    (kegIn s).link.consec = s.link.consec ∧ (kegIn s).link.drops = s.link.drops ∧ (kegIn s).link.rx = s.link.rx ∧
    (kegIn s).link.errored = s.link.errored ∧ (kegIn s).link.overruns = s.link.overruns ∧
    (kegIn s).link.idleSeen = s.link.idleSeen ∧ (kegIn s).req.mask = s.req.mask ∧ (kegIn s).req.asm = s.req.asm ∧
    (kegIn s).req.abandoned = s.req.abandoned ∧ (kegIn s).req.restart = s.req.restart ∧
    (kegIn s).pour.freeze = s.pour.freeze ∧ (kegIn s).pour.serving = s.pour.serving := by
  simp only [kegIn]
  (repeat' split) <;> simp

@[simp] theorem kegOut_keeps (s : Station) :
    (kegOut s).link.replies = s.link.replies ∧ (kegOut s).link.tx = s.link.tx ∧
    (kegOut s).link.mute = s.link.mute ∧ (kegOut s).link.consec = s.link.consec ∧
    (kegOut s).link.drops = s.link.drops ∧ (kegOut s).link.rx = s.link.rx ∧
    (kegOut s).link.errored = s.link.errored ∧ (kegOut s).link.overruns = s.link.overruns ∧
    (kegOut s).link.idleSeen = s.link.idleSeen ∧ (kegOut s).req.mask = s.req.mask ∧
    (kegOut s).req.asm = s.req.asm ∧ (kegOut s).req.abandoned = s.req.abandoned ∧
    (kegOut s).req.restart = s.req.restart ∧ (kegOut s).pour.freeze = s.pour.freeze ∧
    (kegOut s).exc.conflict = s.exc.conflict ∧ (kegOut s).exc.peers = s.exc.peers ∧
    (kegOut s).keg.loaded = s.keg.loaded ∧ (kegOut s).keg.tapLock = s.keg.tapLock := by
  simp only [kegOut]
  (repeat' split) <;> simp

@[simp] theorem runSingle_keeps (s : Station) :
    (runSingle s).link.replies = s.link.replies ∧ (runSingle s).link.tx = s.link.tx ∧
    (runSingle s).link.mute = s.link.mute ∧ (runSingle s).link.consec = s.link.consec ∧
    (runSingle s).link.drops = s.link.drops ∧ (runSingle s).link.rx = s.link.rx ∧
    (runSingle s).link.errored = s.link.errored ∧ (runSingle s).link.overruns = s.link.overruns ∧
    (runSingle s).link.idleSeen = s.link.idleSeen ∧ (runSingle s).pools.peers = s.pools.peers ∧
    (runSingle s).pools.isolated = s.pools.isolated ∧ (runSingle s).pools.silenceMs = s.pools.silenceMs ∧
    (runSingle s).pools.overdrawHold = s.pools.overdrawHold ∧ (runSingle s).pools.backoffMs = s.pools.backoffMs ∧
    (runSingle s).pools.overdraws = s.pools.overdraws := by
  simp only [runSingle]
  (repeat' split) <;> simp

@[simp] theorem loseLead_keeps (s : Station) :
    (loseLead s).link.replies = s.link.replies ∧ (loseLead s).link.tx = s.link.tx ∧
    (loseLead s).link.mute = s.link.mute ∧ (loseLead s).link.consec = s.link.consec ∧
    (loseLead s).link.drops = s.link.drops ∧ (loseLead s).link.rx = s.link.rx ∧
    (loseLead s).link.errored = s.link.errored ∧ (loseLead s).link.overruns = s.link.overruns ∧
    (loseLead s).link.idleSeen = s.link.idleSeen ∧ (loseLead s).req.mask = s.req.mask ∧
    (loseLead s).req.asm = s.req.asm ∧ (loseLead s).req.abandoned = s.req.abandoned ∧
    (loseLead s).req.restart = s.req.restart := by
  simp only [loseLead]
  (repeat' split) <;> simp

@[simp] theorem leadHears_keeps (r : Role) (s : Station) :
    (leadHears r s).link.replies = s.link.replies ∧ (leadHears r s).link.tx = s.link.tx ∧
    (leadHears r s).link.mute = s.link.mute ∧ (leadHears r s).link.consec = s.link.consec ∧
    (leadHears r s).link.drops = s.link.drops ∧ (leadHears r s).link.rx = s.link.rx ∧
    (leadHears r s).link.errored = s.link.errored ∧ (leadHears r s).link.overruns = s.link.overruns ∧
    (leadHears r s).link.idleSeen = s.link.idleSeen ∧ (leadHears r s).req.mask = s.req.mask ∧
    (leadHears r s).req.asm = s.req.asm ∧ (leadHears r s).req.abandoned = s.req.abandoned ∧
    (leadHears r s).req.restart = s.req.restart ∧ (leadHears r s).pools.peers = s.pools.peers ∧
    (leadHears r s).pools.isolated = s.pools.isolated ∧ (leadHears r s).pools.silenceMs = s.pools.silenceMs ∧
    (leadHears r s).pools.overdrawHold = s.pools.overdrawHold ∧
    (leadHears r s).pools.backoffMs = s.pools.backoffMs ∧ (leadHears r s).pools.overdraws = s.pools.overdraws := by
  simp only [leadHears]
  (repeat' split) <;> simp

@[simp] theorem followerHears_keeps (r : Role) (s : Station) :
    (followerHears r s).link.replies = s.link.replies ∧ (followerHears r s).link.tx = s.link.tx ∧
    (followerHears r s).link.mute = s.link.mute ∧ (followerHears r s).link.consec = s.link.consec ∧
    (followerHears r s).link.drops = s.link.drops ∧ (followerHears r s).link.rx = s.link.rx ∧
    (followerHears r s).link.errored = s.link.errored ∧ (followerHears r s).link.overruns = s.link.overruns ∧
    (followerHears r s).link.idleSeen = s.link.idleSeen ∧ (followerHears r s).req.mask = s.req.mask ∧
    (followerHears r s).req.asm = s.req.asm ∧ (followerHears r s).req.abandoned = s.req.abandoned ∧
    (followerHears r s).req.restart = s.req.restart := by
  simp only [followerHears]
  (repeat' split) <;> simp

@[simp] theorem pairHears_keeps (n : Nat) (r : Role) (s : Station) :
    (pairHears n r s).link.replies = s.link.replies ∧ (pairHears n r s).link.tx = s.link.tx ∧
    (pairHears n r s).link.mute = s.link.mute ∧ (pairHears n r s).link.consec = s.link.consec ∧
    (pairHears n r s).link.drops = s.link.drops ∧ (pairHears n r s).link.rx = s.link.rx ∧
    (pairHears n r s).link.errored = s.link.errored ∧ (pairHears n r s).link.overruns = s.link.overruns ∧
    (pairHears n r s).link.idleSeen = s.link.idleSeen ∧ (pairHears n r s).req.mask = s.req.mask ∧
    (pairHears n r s).req.asm = s.req.asm ∧ (pairHears n r s).req.abandoned = s.req.abandoned ∧
    (pairHears n r s).req.restart = s.req.restart ∧ (pairHears n r s).pools.peers = s.pools.peers ∧
    (pairHears n r s).pools.isolated = s.pools.isolated ∧ (pairHears n r s).pools.silenceMs = s.pools.silenceMs ∧
    (pairHears n r s).pools.overdrawHold = s.pools.overdrawHold ∧
    (pairHears n r s).pools.backoffMs = s.pools.backoffMs ∧ (pairHears n r s).pools.overdraws = s.pools.overdraws := by
  simp only [pairHears]
  (repeat' split) <;> simp

@[simp] theorem leadClaim_keeps (n : Nat) (c : ClaimNotice) (s : Station) :
    (leadClaim n c s).link.replies = s.link.replies ∧ (leadClaim n c s).link.tx = s.link.tx ∧
    (leadClaim n c s).link.mute = s.link.mute ∧ (leadClaim n c s).link.consec = s.link.consec ∧
    (leadClaim n c s).link.drops = s.link.drops ∧ (leadClaim n c s).link.rx = s.link.rx ∧
    (leadClaim n c s).link.errored = s.link.errored ∧ (leadClaim n c s).link.overruns = s.link.overruns ∧
    (leadClaim n c s).link.idleSeen = s.link.idleSeen ∧ (leadClaim n c s).pools.peers = s.pools.peers ∧
    (leadClaim n c s).pools.isolated = s.pools.isolated ∧ (leadClaim n c s).pools.silenceMs = s.pools.silenceMs ∧
    (leadClaim n c s).pools.overdrawHold = s.pools.overdrawHold ∧
    (leadClaim n c s).pools.backoffMs = s.pools.backoffMs ∧ (leadClaim n c s).pools.overdraws = s.pools.overdraws := by
  simp only [leadClaim]
  (repeat' split) <;> simp

@[simp] theorem viewChanged_keeps (s : Station) :
    (viewChanged s).link.replies = s.link.replies ∧ (viewChanged s).link.tx = s.link.tx ∧
    (viewChanged s).link.mute = s.link.mute ∧ (viewChanged s).link.consec = s.link.consec ∧
    (viewChanged s).link.drops = s.link.drops ∧ (viewChanged s).link.rx = s.link.rx ∧
    (viewChanged s).link.errored = s.link.errored ∧ (viewChanged s).link.overruns = s.link.overruns ∧
    (viewChanged s).link.idleSeen = s.link.idleSeen := by
  simp only [viewChanged]
  (repeat' split) <;> simp

@[simp] theorem pairChecked_keeps (n : Nat) (r : Role) (s : Station) :
    (pairChecked n r s).link.replies = s.link.replies ∧ (pairChecked n r s).link.tx = s.link.tx ∧
    (pairChecked n r s).link.mute = s.link.mute ∧ (pairChecked n r s).link.consec = s.link.consec ∧
    (pairChecked n r s).link.drops = s.link.drops ∧ (pairChecked n r s).link.rx = s.link.rx ∧
    (pairChecked n r s).link.errored = s.link.errored ∧ (pairChecked n r s).link.overruns = s.link.overruns ∧
    (pairChecked n r s).link.idleSeen = s.link.idleSeen ∧ (pairChecked n r s).req.mask = s.req.mask ∧
    (pairChecked n r s).req.asm = s.req.asm ∧ (pairChecked n r s).req.abandoned = s.req.abandoned ∧
    (pairChecked n r s).req.restart = s.req.restart ∧ (pairChecked n r s).pour.freeze = s.pour.freeze ∧
    (pairChecked n r s).exc.conflict = s.exc.conflict ∧ (pairChecked n r s).exc.peers = s.exc.peers ∧
    (pairChecked n r s).keg.loaded = s.keg.loaded ∧ (pairChecked n r s).keg.tapLock = s.keg.tapLock := by
  simp only [pairChecked, withSetpoint]
  (repeat' split) <;> simp

@[simp] theorem hearClaim_keeps (n : Nat) (c : ClaimNotice) (s : Station) :
    (hearClaim n c s).link.replies = s.link.replies ∧ (hearClaim n c s).link.tx = s.link.tx ∧
    (hearClaim n c s).link.mute = s.link.mute ∧ (hearClaim n c s).link.consec = s.link.consec ∧
    (hearClaim n c s).link.drops = s.link.drops ∧ (hearClaim n c s).link.rx = s.link.rx ∧
    (hearClaim n c s).link.errored = s.link.errored ∧ (hearClaim n c s).link.overruns = s.link.overruns ∧
    (hearClaim n c s).link.idleSeen = s.link.idleSeen ∧ (hearClaim n c s).req.mask = s.req.mask ∧
    (hearClaim n c s).req.asm = s.req.asm ∧ (hearClaim n c s).req.abandoned = s.req.abandoned ∧
    (hearClaim n c s).req.restart = s.req.restart ∧ (hearClaim n c s).pour.freeze = s.pour.freeze ∧
    (hearClaim n c s).exc.conflict = s.exc.conflict ∧ (hearClaim n c s).exc.peers = s.exc.peers ∧
    (hearClaim n c s).keg.loaded = s.keg.loaded ∧ (hearClaim n c s).keg.tapLock = s.keg.tapLock := by
  simp only [hearClaim, withSetpoint]
  (repeat' split) <;> simp

@[simp] theorem lowerHeard_keeps (b : PerPool Nat) (s : Station) :
    (lowerHeard b s).start.id = s.start.id ∧ (lowerHeard b s).start.pair = s.start.pair ∧
    (lowerHeard b s).start.role = s.start.role ∧ (lowerHeard b s).start.setup = s.start.setup := by
  simp only [lowerHeard]
  (repeat' split) <;> simp

@[simp] theorem adoptLower_keeps (p : Pool) (b : Nat) (s : Station) :
    (adoptLower p b s).link.replies = s.link.replies ∧ (adoptLower p b s).link.tx = s.link.tx ∧
    (adoptLower p b s).link.mute = s.link.mute ∧ (adoptLower p b s).link.consec = s.link.consec ∧
    (adoptLower p b s).link.drops = s.link.drops ∧ (adoptLower p b s).link.rx = s.link.rx ∧
    (adoptLower p b s).link.errored = s.link.errored ∧ (adoptLower p b s).link.overruns = s.link.overruns ∧
    (adoptLower p b s).link.idleSeen = s.link.idleSeen ∧ (adoptLower p b s).req.mask = s.req.mask ∧
    (adoptLower p b s).req.asm = s.req.asm ∧ (adoptLower p b s).req.abandoned = s.req.abandoned ∧
    (adoptLower p b s).req.restart = s.req.restart := by
  simp only [adoptLower]
  (repeat' split) <;> simp

@[simp] theorem takeBudgets_keeps (b : PerPool Nat) (s : Station) :
    (takeBudgets b s).start.id = s.start.id ∧ (takeBudgets b s).start.pair = s.start.pair ∧
    (takeBudgets b s).start.role = s.start.role ∧ (takeBudgets b s).start.setup = s.start.setup ∧
    (takeBudgets b s).link.replies = s.link.replies ∧ (takeBudgets b s).link.tx = s.link.tx ∧
    (takeBudgets b s).link.mute = s.link.mute ∧ (takeBudgets b s).link.consec = s.link.consec ∧
    (takeBudgets b s).link.drops = s.link.drops ∧ (takeBudgets b s).link.rx = s.link.rx ∧
    (takeBudgets b s).link.errored = s.link.errored ∧ (takeBudgets b s).link.overruns = s.link.overruns ∧
    (takeBudgets b s).link.idleSeen = s.link.idleSeen ∧ (takeBudgets b s).req.mask = s.req.mask ∧
    (takeBudgets b s).req.asm = s.req.asm ∧ (takeBudgets b s).req.abandoned = s.req.abandoned ∧
    (takeBudgets b s).req.restart = s.req.restart := by
  simp only [takeBudgets]
  (repeat' split) <;> simp

@[simp] theorem writePeerLine_keeps (n : Nat) (l : PeerLine) (s : Station) :
    (writePeerLine n l s).exc.conflict = s.exc.conflict := rfl

@[simp] theorem hearPresence_keeps (n : Nat) (p : PresNotice) (s : Station) :
    (hearPresence n p s).start.id = s.start.id ∧ (hearPresence n p s).start.pair = s.start.pair ∧
    (hearPresence n p s).start.role = s.start.role ∧ (hearPresence n p s).start.setup = s.start.setup ∧
    (hearPresence n p s).link.replies = s.link.replies ∧ (hearPresence n p s).link.tx = s.link.tx ∧
    (hearPresence n p s).link.mute = s.link.mute ∧ (hearPresence n p s).link.consec = s.link.consec ∧
    (hearPresence n p s).link.drops = s.link.drops ∧ (hearPresence n p s).link.rx = s.link.rx ∧
    (hearPresence n p s).link.errored = s.link.errored ∧ (hearPresence n p s).link.overruns = s.link.overruns ∧
    (hearPresence n p s).link.idleSeen = s.link.idleSeen ∧ (hearPresence n p s).req.mask = s.req.mask ∧
    (hearPresence n p s).req.asm = s.req.asm ∧ (hearPresence n p s).req.abandoned = s.req.abandoned ∧
    (hearPresence n p s).req.restart = s.req.restart ∧ (hearPresence n p s).exc.conflict = s.exc.conflict := by
  simp only [hearPresence]
  (repeat' split) <;> simp

@[simp] theorem hearExcursion_keeps (n : Nat) (x : ExcNotice) (s : Station) :
    (hearExcursion n x s).link.replies = s.link.replies ∧ (hearExcursion n x s).link.tx = s.link.tx ∧
    (hearExcursion n x s).link.mute = s.link.mute ∧ (hearExcursion n x s).link.consec = s.link.consec ∧
    (hearExcursion n x s).link.drops = s.link.drops ∧ (hearExcursion n x s).link.rx = s.link.rx ∧
    (hearExcursion n x s).link.errored = s.link.errored ∧ (hearExcursion n x s).link.overruns = s.link.overruns ∧
    (hearExcursion n x s).link.idleSeen = s.link.idleSeen ∧ (hearExcursion n x s).req.mask = s.req.mask ∧
    (hearExcursion n x s).req.asm = s.req.asm ∧ (hearExcursion n x s).req.abandoned = s.req.abandoned ∧
    (hearExcursion n x s).req.restart = s.req.restart ∧ (hearExcursion n x s).exc.conflict = s.exc.conflict := by
  simp only [hearExcursion]
  (repeat' split) <;> simp

@[simp] theorem partnerGone_keeps (s : Station) :
    (partnerGone s).link.replies = s.link.replies ∧ (partnerGone s).link.tx = s.link.tx ∧
    (partnerGone s).link.mute = s.link.mute ∧ (partnerGone s).link.consec = s.link.consec ∧
    (partnerGone s).link.drops = s.link.drops ∧ (partnerGone s).link.rx = s.link.rx ∧
    (partnerGone s).link.errored = s.link.errored ∧ (partnerGone s).link.overruns = s.link.overruns ∧
    (partnerGone s).link.idleSeen = s.link.idleSeen ∧ (partnerGone s).req.mask = s.req.mask ∧
    (partnerGone s).req.asm = s.req.asm ∧ (partnerGone s).req.abandoned = s.req.abandoned ∧
    (partnerGone s).req.restart = s.req.restart := by
  simp only [partnerGone]
  (repeat' split) <;> simp

@[simp] theorem ageEntries_keeps (s : Station) :
    (ageEntries s).link.replies = s.link.replies ∧ (ageEntries s).link.tx = s.link.tx ∧
    (ageEntries s).link.mute = s.link.mute ∧ (ageEntries s).link.consec = s.link.consec ∧
    (ageEntries s).link.drops = s.link.drops ∧ (ageEntries s).link.rx = s.link.rx ∧
    (ageEntries s).link.errored = s.link.errored ∧ (ageEntries s).link.overruns = s.link.overruns ∧
    (ageEntries s).link.idleSeen = s.link.idleSeen ∧ (ageEntries s).req.mask = s.req.mask ∧
    (ageEntries s).req.asm = s.req.asm ∧ (ageEntries s).req.abandoned = s.req.abandoned ∧
    (ageEntries s).req.restart = s.req.restart ∧ (ageEntries s).pour.freeze = s.pour.freeze ∧
    (ageEntries s).exc.conflict = s.exc.conflict ∧ (ageEntries s).exc.peers = s.exc.peers ∧
    (ageEntries s).keg.loaded = s.keg.loaded ∧ (ageEntries s).keg.tapLock = s.keg.tapLock := by
  simp only [ageEntries, withSetpoint]
  (repeat' split) <;> simp

@[simp] theorem placePresence_keeps (s : Station) :
    (placePresence s).start.id = s.start.id ∧ (placePresence s).start.pair = s.start.pair ∧
    (placePresence s).start.role = s.start.role ∧ (placePresence s).start.setup = s.start.setup ∧
    (placePresence s).link.replies = s.link.replies ∧ (placePresence s).link.tx = s.link.tx ∧
    (placePresence s).link.mute = s.link.mute ∧ (placePresence s).link.consec = s.link.consec ∧
    (placePresence s).link.drops = s.link.drops ∧ (placePresence s).link.rx = s.link.rx ∧
    (placePresence s).link.errored = s.link.errored ∧ (placePresence s).link.overruns = s.link.overruns ∧
    (placePresence s).link.idleSeen = s.link.idleSeen := by
  simp only [placePresence]
  (repeat' split) <;> simp

@[simp] theorem presencePlacement_keeps (s : Station) :
    (presencePlacement s).start.id = s.start.id ∧ (presencePlacement s).start.pair = s.start.pair ∧
    (presencePlacement s).start.role = s.start.role ∧ (presencePlacement s).start.setup = s.start.setup ∧
    (presencePlacement s).link.replies = s.link.replies ∧ (presencePlacement s).link.tx = s.link.tx ∧
    (presencePlacement s).link.mute = s.link.mute ∧ (presencePlacement s).link.consec = s.link.consec ∧
    (presencePlacement s).link.drops = s.link.drops ∧ (presencePlacement s).link.rx = s.link.rx ∧
    (presencePlacement s).link.errored = s.link.errored ∧ (presencePlacement s).link.overruns = s.link.overruns ∧
    (presencePlacement s).link.idleSeen = s.link.idleSeen := by
  simp only [presencePlacement]
  (repeat' split) <;> simp

@[simp] theorem boundary_keeps (s : Station) :
    (boundary s).start.id = s.start.id ∧ (boundary s).start.pair = s.start.pair ∧
    (boundary s).start.role = s.start.role ∧ (boundary s).start.setup = s.start.setup ∧
    (boundary s).link.replies = s.link.replies ∧ (boundary s).link.tx = s.link.tx ∧
    (boundary s).link.mute = s.link.mute ∧ (boundary s).link.consec = s.link.consec ∧
    (boundary s).link.drops = s.link.drops ∧ (boundary s).link.rx = s.link.rx ∧
    (boundary s).link.errored = s.link.errored ∧ (boundary s).link.overruns = s.link.overruns ∧
    (boundary s).link.idleSeen = s.link.idleSeen ∧ (boundary s).req.mask = s.req.mask ∧
    (boundary s).req.asm = s.req.asm ∧ (boundary s).req.abandoned = s.req.abandoned ∧
    (boundary s).req.restart = s.req.restart ∧ (boundary s).pour.freeze = s.pour.freeze ∧
    (boundary s).exc.conflict = s.exc.conflict ∧ (boundary s).exc.peers = s.exc.peers ∧
    (boundary s).keg.loaded = s.keg.loaded ∧ (boundary s).keg.tapLock = s.keg.tapLock := by
  simp only [boundary]
  (repeat' split) <;> simp

@[simp] theorem adoptBudgets_keeps (s : Station) :
    (adoptBudgets s).link.replies = s.link.replies ∧ (adoptBudgets s).link.tx = s.link.tx ∧
    (adoptBudgets s).link.mute = s.link.mute ∧ (adoptBudgets s).link.consec = s.link.consec ∧
    (adoptBudgets s).link.drops = s.link.drops ∧ (adoptBudgets s).link.rx = s.link.rx ∧
    (adoptBudgets s).link.errored = s.link.errored ∧ (adoptBudgets s).link.overruns = s.link.overruns ∧
    (adoptBudgets s).link.idleSeen = s.link.idleSeen ∧ (adoptBudgets s).req.mask = s.req.mask ∧
    (adoptBudgets s).req.asm = s.req.asm ∧ (adoptBudgets s).req.abandoned = s.req.abandoned ∧
    (adoptBudgets s).req.restart = s.req.restart := by
  simp only [adoptBudgets]
  (repeat' split) <;> simp

@[simp] theorem settlePair_keeps (s : Station) :
    (settlePair s).link.replies = s.link.replies ∧ (settlePair s).link.tx = s.link.tx ∧
    (settlePair s).link.mute = s.link.mute ∧ (settlePair s).link.consec = s.link.consec ∧
    (settlePair s).link.drops = s.link.drops ∧ (settlePair s).link.rx = s.link.rx ∧
    (settlePair s).link.errored = s.link.errored ∧ (settlePair s).link.overruns = s.link.overruns ∧
    (settlePair s).link.idleSeen = s.link.idleSeen ∧ (settlePair s).req.mask = s.req.mask ∧
    (settlePair s).req.asm = s.req.asm ∧ (settlePair s).req.abandoned = s.req.abandoned ∧
    (settlePair s).req.restart = s.req.restart := by
  simp only [settlePair]
  (repeat' split) <;> simp

@[simp] theorem emptyPresence_keeps (s : Station) :
    (emptyPresence s).start.phase = s.start.phase ∧ (emptyPresence s).start.windowMs = s.start.windowMs ∧
    (emptyPresence s).start.boundaries = s.start.boundaries ∧ (emptyPresence s).start.id = s.start.id ∧
    (emptyPresence s).start.pair = s.start.pair ∧ (emptyPresence s).start.role = s.start.role ∧
    (emptyPresence s).start.setup = s.start.setup ∧ (emptyPresence s).start.lowest = s.start.lowest ∧
    (emptyPresence s).start.presSent = s.start.presSent ∧ (emptyPresence s).link.idleSeen = s.link.idleSeen ∧
    (emptyPresence s).link.exc = s.link.exc ∧ (emptyPresence s).link.claim = s.link.claim ∧
    (emptyPresence s).link.evt = s.link.evt ∧ (emptyPresence s).link.replies = s.link.replies ∧
    (emptyPresence s).link.reports = s.link.reports ∧ (emptyPresence s).link.tx = s.link.tx ∧
    (emptyPresence s).link.consec = s.link.consec ∧ (emptyPresence s).link.drops = s.link.drops ∧
    (emptyPresence s).link.mute = s.link.mute ∧ (emptyPresence s).link.muteIntervals = s.link.muteIntervals ∧
    (emptyPresence s).link.rx = s.link.rx ∧ (emptyPresence s).link.errored = s.link.errored ∧
    (emptyPresence s).link.overruns = s.link.overruns ∧ (emptyPresence s).link.spacingMs = s.link.spacingMs ∧
    (emptyPresence s).link.extraHeld = s.link.extraHeld ∧ (emptyPresence s).link.seq = s.link.seq := by
  simp only [emptyPresence]
  (repeat' split) <;> simp

@[simp] theorem clearH_keeps (s : Station) :
    (clearH s).exc.state = s.exc.state ∧ (clearH s).exc.kind = s.exc.kind ∧ (clearH s).exc.saved = s.exc.saved ∧
    (clearH s).exc.overtemp = s.exc.overtemp ∧ (clearH s).exc.undertemp = s.exc.undertemp ∧
    (clearH s).exc.overpressure = s.exc.overpressure ∧ (clearH s).exc.probeLost = s.exc.probeLost ∧
    (clearH s).exc.linkMute = s.exc.linkMute ∧ (clearH s).exc.overS = s.exc.overS ∧
    (clearH s).exc.underS = s.exc.underS ∧ (clearH s).exc.clearMs = s.exc.clearMs ∧
    (clearH s).exc.holdMs = s.exc.holdMs ∧ (clearH s).exc.conflict = s.exc.conflict ∧
    (clearH s).exc.peers = s.exc.peers ∧ (clearH s).exc.log = s.exc.log ∧ (clearH s).prog.pair = s.prog.pair ∧
    (clearH s).prog.mismatch = s.prog.mismatch ∧ (clearH s).prog.vessel = s.prog.vessel ∧
    (clearH s).prog.leadHeard = s.prog.leadHeard ∧ (clearH s).prog.lastS = s.prog.lastS := by
  simp only [clearH]
  (repeat' split) <;> simp

@[simp] theorem windowEnd_keeps (s : Station) :
    (windowEnd s).start.id = s.start.id ∧ (windowEnd s).start.pair = s.start.pair ∧
    (windowEnd s).start.role = s.start.role ∧ (windowEnd s).start.setup = s.start.setup ∧
    (windowEnd s).link.replies = s.link.replies ∧ (windowEnd s).link.tx = s.link.tx ∧
    (windowEnd s).link.mute = s.link.mute ∧ (windowEnd s).link.consec = s.link.consec ∧
    (windowEnd s).link.drops = s.link.drops ∧ (windowEnd s).link.rx = s.link.rx ∧
    (windowEnd s).link.errored = s.link.errored ∧ (windowEnd s).link.overruns = s.link.overruns ∧
    (windowEnd s).link.idleSeen = s.link.idleSeen ∧ (windowEnd s).req.mask = s.req.mask ∧
    (windowEnd s).req.asm = s.req.asm ∧ (windowEnd s).req.abandoned = s.req.abandoned ∧
    (windowEnd s).req.restart = s.req.restart ∧ (windowEnd s).pour.freeze = s.pour.freeze ∧
    (windowEnd s).exc.conflict = s.exc.conflict ∧ (windowEnd s).exc.peers = s.exc.peers ∧
    (windowEnd s).keg.loaded = s.keg.loaded ∧ (windowEnd s).keg.tapLock = s.keg.tapLock := by
  simp only [windowEnd, withSetpoint]
  (repeat' split) <;> simp

@[simp] theorem idleOffer_keeps (s : Station) :
    (idleOffer s).link.replies = s.link.replies ∧ (idleOffer s).link.mute = s.link.mute ∧
    (idleOffer s).link.consec = s.link.consec ∧ (idleOffer s).link.drops = s.link.drops ∧
    (idleOffer s).link.rx = s.link.rx ∧ (idleOffer s).link.errored = s.link.errored ∧
    (idleOffer s).link.overruns = s.link.overruns := by
  simp only [idleOffer]
  (repeat' split) <;> simp

@[simp] theorem endTx_keeps (s : Station) :
    (endTx s).link.replies = s.link.replies ∧ (endTx s).link.mute = s.link.mute ∧
    (endTx s).link.consec = s.link.consec ∧ (endTx s).link.drops = s.link.drops ∧ (endTx s).link.rx = s.link.rx ∧
    (endTx s).link.errored = s.link.errored ∧ (endTx s).link.overruns = s.link.overruns ∧
    (endTx s).link.idleSeen = s.link.idleSeen := by
  simp only [endTx]
  (repeat' split) <;> simp

@[simp] theorem endReport_keeps (s : Station) :
    (endReport s).req.flags = s.req.flags ∧ (endReport s).req.mask = s.req.mask ∧
    (endReport s).req.cause = s.req.cause ∧ (endReport s).req.asm = s.req.asm ∧
    (endReport s).req.abandoned = s.req.abandoned ∧ (endReport s).req.restart = s.req.restart := by
  simp only [endReport]
  (repeat' split) <;> simp

@[simp] theorem arbLost_keeps (s : Station) :
    (arbLost s).link.replies = s.link.replies ∧ (arbLost s).link.mute = s.link.mute ∧
    (arbLost s).link.consec = s.link.consec ∧ (arbLost s).link.drops = s.link.drops ∧
    (arbLost s).link.rx = s.link.rx ∧ (arbLost s).link.errored = s.link.errored ∧
    (arbLost s).link.overruns = s.link.overruns ∧ (arbLost s).link.idleSeen = s.link.idleSeen := by
  simp only [arbLost]
  (repeat' split) <;> simp

@[simp] theorem enterMute_keeps (s : Station) :
    (enterMute s).link.replies = s.link.replies ∧ (enterMute s).link.tx = s.link.tx ∧
    (enterMute s).link.rx = s.link.rx ∧ (enterMute s).link.errored = s.link.errored ∧
    (enterMute s).link.overruns = s.link.overruns ∧ (enterMute s).link.idleSeen = s.link.idleSeen ∧
    (enterMute s).req.mask = s.req.mask ∧ (enterMute s).req.asm = s.req.asm ∧
    (enterMute s).req.abandoned = s.req.abandoned ∧ (enterMute s).req.restart = s.req.restart ∧
    (enterMute s).pour.freeze = s.pour.freeze ∧ (enterMute s).exc.conflict = s.exc.conflict ∧
    (enterMute s).exc.peers = s.exc.peers ∧ (enterMute s).keg.loaded = s.keg.loaded ∧
    (enterMute s).keg.tapLock = s.keg.tapLock := by
  simp only [enterMute]
  (repeat' split) <;> simp

@[simp] theorem countDrop_keeps (d : Bool) (s : Station) :
    (countDrop d s).link.replies = s.link.replies ∧ (countDrop d s).link.tx = s.link.tx ∧
    (countDrop d s).link.rx = s.link.rx ∧ (countDrop d s).link.errored = s.link.errored ∧
    (countDrop d s).link.overruns = s.link.overruns ∧ (countDrop d s).link.idleSeen = s.link.idleSeen ∧
    (countDrop d s).req.mask = s.req.mask ∧ (countDrop d s).req.asm = s.req.asm ∧
    (countDrop d s).req.abandoned = s.req.abandoned ∧ (countDrop d s).req.restart = s.req.restart ∧
    (countDrop d s).pour.freeze = s.pour.freeze ∧ (countDrop d s).exc.conflict = s.exc.conflict ∧
    (countDrop d s).exc.peers = s.exc.peers ∧ (countDrop d s).keg.loaded = s.keg.loaded ∧
    (countDrop d s).keg.tapLock = s.keg.tapLock := by
  simp only [countDrop]
  (repeat' split) <;> simp

@[simp] theorem claimFailed_keeps (s : Station) :
    (claimFailed s).link.replies = s.link.replies ∧ (claimFailed s).link.tx = s.link.tx ∧
    (claimFailed s).link.rx = s.link.rx ∧ (claimFailed s).link.errored = s.link.errored ∧
    (claimFailed s).link.overruns = s.link.overruns ∧ (claimFailed s).link.idleSeen = s.link.idleSeen ∧
    (claimFailed s).req.mask = s.req.mask ∧ (claimFailed s).req.asm = s.req.asm ∧
    (claimFailed s).req.abandoned = s.req.abandoned ∧ (claimFailed s).req.restart = s.req.restart ∧
    (claimFailed s).pour.freeze = s.pour.freeze ∧ (claimFailed s).exc.conflict = s.exc.conflict ∧
    (claimFailed s).exc.peers = s.exc.peers ∧ (claimFailed s).keg.loaded = s.keg.loaded ∧
    (claimFailed s).keg.tapLock = s.keg.tapLock := by
  simp only [claimFailed]
  (repeat' split) <;> simp

@[simp] theorem bitError_keeps (s : Station) :
    (bitError s).start.id = s.start.id ∧ (bitError s).start.pair = s.start.pair ∧
    (bitError s).start.role = s.start.role ∧ (bitError s).start.setup = s.start.setup ∧
    (bitError s).link.rx = s.link.rx ∧ (bitError s).link.errored = s.link.errored ∧
    (bitError s).link.overruns = s.link.overruns ∧ (bitError s).link.idleSeen = s.link.idleSeen ∧
    (bitError s).req.mask = s.req.mask ∧ (bitError s).req.asm = s.req.asm ∧
    (bitError s).req.abandoned = s.req.abandoned ∧ (bitError s).req.restart = s.req.restart ∧
    (bitError s).pour.freeze = s.pour.freeze ∧ (bitError s).exc.conflict = s.exc.conflict ∧
    (bitError s).exc.peers = s.exc.peers ∧ (bitError s).keg.loaded = s.keg.loaded ∧
    (bitError s).keg.tapLock = s.keg.tapLock := by
  simp only [bitError]
  (repeat' split) <;> simp

@[simp] theorem claimsSent_keeps (c : ClaimNotice) (s : Station) :
    (claimsSent c s).pools.peers = s.pools.peers ∧ (claimsSent c s).pools.isolated = s.pools.isolated ∧
    (claimsSent c s).pools.silenceMs = s.pools.silenceMs ∧
    (claimsSent c s).pools.overdrawHold = s.pools.overdrawHold ∧
    (claimsSent c s).pools.backoffMs = s.pools.backoffMs ∧ (claimsSent c s).pools.overdraws = s.pools.overdraws := by
  simp only [claimsSent]
  (repeat' split) <;> simp

@[simp] theorem askStillWaiting_keeps (s : Station) :
    (askStillWaiting s).link.replies = s.link.replies ∧ (askStillWaiting s).link.tx = s.link.tx ∧
    (askStillWaiting s).link.mute = s.link.mute ∧ (askStillWaiting s).link.consec = s.link.consec ∧
    (askStillWaiting s).link.drops = s.link.drops ∧ (askStillWaiting s).link.rx = s.link.rx ∧
    (askStillWaiting s).link.errored = s.link.errored ∧ (askStillWaiting s).link.overruns = s.link.overruns ∧
    (askStillWaiting s).link.idleSeen = s.link.idleSeen := by
  simp only [askStillWaiting]
  (repeat' split) <;> simp

@[simp] theorem sentClaim_keeps (s : Station) :
    (sentClaim s).link.replies = s.link.replies ∧ (sentClaim s).link.tx = s.link.tx ∧
    (sentClaim s).link.rx = s.link.rx ∧ (sentClaim s).link.errored = s.link.errored ∧
    (sentClaim s).link.overruns = s.link.overruns ∧ (sentClaim s).link.idleSeen = s.link.idleSeen ∧
    (sentClaim s).req.mask = s.req.mask ∧ (sentClaim s).req.asm = s.req.asm ∧
    (sentClaim s).req.abandoned = s.req.abandoned ∧ (sentClaim s).req.restart = s.req.restart ∧
    (sentClaim s).pour.freeze = s.pour.freeze ∧ (sentClaim s).exc.conflict = s.exc.conflict ∧
    (sentClaim s).exc.peers = s.exc.peers ∧ (sentClaim s).keg.loaded = s.keg.loaded ∧
    (sentClaim s).keg.tapLock = s.keg.tapLock := by
  simp only [sentClaim]
  (repeat' split) <;> simp

@[simp] theorem sentEvent_keeps (s : Station) :
    (sentEvent s).link.replies = s.link.replies ∧ (sentEvent s).link.tx = s.link.tx ∧
    (sentEvent s).link.mute = s.link.mute ∧ (sentEvent s).link.consec = s.link.consec ∧
    (sentEvent s).link.drops = s.link.drops ∧ (sentEvent s).link.rx = s.link.rx ∧
    (sentEvent s).link.errored = s.link.errored ∧ (sentEvent s).link.overruns = s.link.overruns ∧
    (sentEvent s).link.idleSeen = s.link.idleSeen ∧ (sentEvent s).req.mask = s.req.mask ∧
    (sentEvent s).req.asm = s.req.asm ∧ (sentEvent s).req.abandoned = s.req.abandoned ∧
    (sentEvent s).req.restart = s.req.restart := by
  simp only [sentEvent]
  (repeat' split) <;> simp

@[simp] theorem sendDone_keeps (s : Station) :
    (sendDone s).start.id = s.start.id ∧ (sendDone s).start.pair = s.start.pair ∧
    (sendDone s).start.role = s.start.role ∧ (sendDone s).start.setup = s.start.setup ∧
    (sendDone s).link.rx = s.link.rx ∧ (sendDone s).link.errored = s.link.errored ∧
    (sendDone s).link.overruns = s.link.overruns ∧ (sendDone s).link.idleSeen = s.link.idleSeen ∧
    (sendDone s).req.mask = s.req.mask ∧ (sendDone s).req.asm = s.req.asm ∧
    (sendDone s).req.abandoned = s.req.abandoned ∧ (sendDone s).req.restart = s.req.restart ∧
    (sendDone s).pour.freeze = s.pour.freeze ∧ (sendDone s).exc.conflict = s.exc.conflict ∧
    (sendDone s).exc.peers = s.exc.peers ∧ (sendDone s).keg.loaded = s.keg.loaded ∧
    (sendDone s).keg.tapLock = s.keg.tapLock := by
  simp only [sendDone]
  (repeat' split) <;> simp

@[simp] theorem countFrame_keeps (b : Bool) (s : Station) :
    (countFrame b s).link.replies = s.link.replies ∧ (countFrame b s).link.tx = s.link.tx ∧
    (countFrame b s).link.mute = s.link.mute ∧ (countFrame b s).link.consec = s.link.consec ∧
    (countFrame b s).link.drops = s.link.drops ∧ (countFrame b s).link.overruns = s.link.overruns ∧
    (countFrame b s).link.idleSeen = s.link.idleSeen ∧ (countFrame b s).req.mask = s.req.mask ∧
    (countFrame b s).req.asm = s.req.asm ∧ (countFrame b s).req.abandoned = s.req.abandoned ∧
    (countFrame b s).req.restart = s.req.restart := by
  simp only [countFrame]
  (repeat' split) <;> simp

@[simp] theorem takeClaim_keeps (n : Nat) (p : List Byte) (s : Station) :
    (takeClaim n p s).link.replies = s.link.replies ∧ (takeClaim n p s).link.tx = s.link.tx ∧
    (takeClaim n p s).link.mute = s.link.mute ∧ (takeClaim n p s).link.consec = s.link.consec ∧
    (takeClaim n p s).link.drops = s.link.drops ∧ (takeClaim n p s).link.rx = s.link.rx ∧
    (takeClaim n p s).link.errored = s.link.errored ∧ (takeClaim n p s).link.overruns = s.link.overruns ∧
    (takeClaim n p s).link.idleSeen = s.link.idleSeen ∧ (takeClaim n p s).req.mask = s.req.mask ∧
    (takeClaim n p s).req.asm = s.req.asm ∧ (takeClaim n p s).req.abandoned = s.req.abandoned ∧
    (takeClaim n p s).req.restart = s.req.restart ∧ (takeClaim n p s).pour.freeze = s.pour.freeze ∧
    (takeClaim n p s).exc.conflict = s.exc.conflict ∧ (takeClaim n p s).exc.peers = s.exc.peers ∧
    (takeClaim n p s).keg.loaded = s.keg.loaded ∧ (takeClaim n p s).keg.tapLock = s.keg.tapLock := by
  simp only [takeClaim]
  (repeat' split) <;> simp

@[simp] theorem takePresence_keeps (n : Nat) (p : List Byte) (s : Station) :
    (takePresence n p s).start.id = s.start.id ∧ (takePresence n p s).start.pair = s.start.pair ∧
    (takePresence n p s).start.role = s.start.role ∧ (takePresence n p s).start.setup = s.start.setup ∧
    (takePresence n p s).link.replies = s.link.replies ∧ (takePresence n p s).link.tx = s.link.tx ∧
    (takePresence n p s).link.mute = s.link.mute ∧ (takePresence n p s).link.consec = s.link.consec ∧
    (takePresence n p s).link.drops = s.link.drops ∧ (takePresence n p s).link.rx = s.link.rx ∧
    (takePresence n p s).link.errored = s.link.errored ∧ (takePresence n p s).link.overruns = s.link.overruns ∧
    (takePresence n p s).link.idleSeen = s.link.idleSeen ∧ (takePresence n p s).req.mask = s.req.mask ∧
    (takePresence n p s).req.asm = s.req.asm ∧ (takePresence n p s).req.abandoned = s.req.abandoned ∧
    (takePresence n p s).req.restart = s.req.restart ∧ (takePresence n p s).exc.conflict = s.exc.conflict := by
  simp only [takePresence]
  (repeat' split) <;> simp

@[simp] theorem takeExcursion_keeps (n : Nat) (p : List Byte) (s : Station) :
    (takeExcursion n p s).link.replies = s.link.replies ∧ (takeExcursion n p s).link.tx = s.link.tx ∧
    (takeExcursion n p s).link.mute = s.link.mute ∧ (takeExcursion n p s).link.consec = s.link.consec ∧
    (takeExcursion n p s).link.drops = s.link.drops ∧ (takeExcursion n p s).link.rx = s.link.rx ∧
    (takeExcursion n p s).link.errored = s.link.errored ∧ (takeExcursion n p s).link.overruns = s.link.overruns ∧
    (takeExcursion n p s).link.idleSeen = s.link.idleSeen ∧ (takeExcursion n p s).req.mask = s.req.mask ∧
    (takeExcursion n p s).req.asm = s.req.asm ∧ (takeExcursion n p s).req.abandoned = s.req.abandoned ∧
    (takeExcursion n p s).req.restart = s.req.restart ∧ (takeExcursion n p s).exc.conflict = s.exc.conflict := by
  simp only [takeExcursion]
  (repeat' split) <;> simp

end Sys2Proof.Machine
end

