-- ==== Sys2Proof/Laws/State.lean ====
section
/-! SUPPORT. What the updates of a state and of its units hold, one lemma for each field, and what a command's outcome is. -/
namespace Sys2Proof.Machine
open Sys2Proof

@[simp] theorem State.on_station (s : State) (f : Station → Station) : (s.on f).station = f s.station := rfl
@[simp] theorem State.on_pending (s : State) (f : Station → Station) : (s.on f).pending = s.pending := rfl

/-- A powered part takes the command. -/
theorem act_powered {s : State} (h : s.station.powered = true) (f : Station → Station) : act f s = .next (s.on f) := by
  simp [act, h]

/-- An unpowered part is left as it is. -/
theorem act_unpowered {s : State} (h : s.station.powered = false) (f : Station → Station) : act f s = .next s := by
  simp [act, h]

/-- A command that changes nothing of the part changes nothing. -/
theorem act_same {f : Station → Station} {s : State} (h : f s.station = s.station) : act f s = .next s := by
  simp [act, State.on, h]

/-- Whatever the part does, a command goes on and leaves the queue. -/
theorem act_next (f : Station → Station) (s : State) : ∃ t, act f s = .next t ∧ t.pending = s.pending := by
  refine ⟨_, rfl, ?_⟩
  split <;> rfl

@[simp] theorem PerPool.get_set_same {α : Type} (x : PerPool α) (p : Pool) (a : α) : (x.set p a).get p = a := by
  cases p <;> rfl

theorem PerPool.get_set_other {α : Type} (x : PerPool α) (a : α) {p q : Pool} (h : q ≠ p) :
    (x.set p a).get q = x.get q := by
  cases p <;> cases q <;> first | rfl | exact absurd rfl h

@[simp] theorem PerPool.set_heat_heat {α : Type} (x : PerPool α) (a : α) : (x.set .heat a).heat = a := rfl
@[simp] theorem PerPool.set_heat_chill {α : Type} (x : PerPool α) (a : α) : (x.set .heat a).chill = x.chill := rfl
@[simp] theorem PerPool.set_heat_gas {α : Type} (x : PerPool α) (a : α) : (x.set .heat a).gas = x.gas := rfl
@[simp] theorem PerPool.set_chill_heat {α : Type} (x : PerPool α) (a : α) : (x.set .chill a).heat = x.heat := rfl
@[simp] theorem PerPool.set_chill_chill {α : Type} (x : PerPool α) (a : α) : (x.set .chill a).chill = a := rfl
@[simp] theorem PerPool.set_chill_gas {α : Type} (x : PerPool α) (a : α) : (x.set .chill a).gas = x.gas := rfl
@[simp] theorem PerPool.set_gas_heat {α : Type} (x : PerPool α) (a : α) : (x.set .gas a).heat = x.heat := rfl
@[simp] theorem PerPool.set_gas_chill {α : Type} (x : PerPool α) (a : α) : (x.set .gas a).chill = x.chill := rfl
@[simp] theorem PerPool.set_gas_gas {α : Type} (x : PerPool α) (a : α) : (x.set .gas a).gas = a := rfl

@[simp] theorem Station.setItem_items (s : Station) (p : Pool) (it : PoolItem) :
    (s.setItem p it).pools.items = s.pools.items.set p it := rfl

@[simp] theorem Station.item_setItem (s : Station) (p : Pool) (it : PoolItem) : (s.setItem p it).item p = it := by
  simp [Station.item]

theorem Station.item_setItem_other (s : Station) (it : PoolItem) {p q : Pool} (h : q ≠ p) :
    (s.setItem p it).item q = s.item q := by
  simp [Station.item, PerPool.get_set_other _ _ h]

@[simp] theorem Station.withReply_replies (s : Station) (code : Nat) (rc : ReplyCode) :
    (s.withReply code rc).link.replies = s.link.replies ++ [{ code := code, rc := rc }] := rfl

@[simp] theorem reserveEntry_replies (code : Nat) (s : Station) :
    (reserveEntry code s).link.replies = s.link.replies ++ [{ code := code }] := rfl

/-- The reply of a request whose effect leaves the reply list alone. -/
theorem fillEntry_replies {code : Nat} {v : Verdict} {s : Station}
    (h : v.after.link.replies = (reserveEntry code s).link.replies) :
    (fillEntry code v).link.replies = s.link.replies ++ [{ code := code, rc := v.rc, answer := v.answer }] := by
  simp [fillEntry, h]

/-- A refused request leaves the reply alone behind it (R189). -/
theorem fillEntry_refuse (code : Nat) (rc : ReplyCode) (s : Station) :
    fillEntry code (refuse rc (reserveEntry code s)) = s.withReply code rc := by
  simp [fillEntry, refuse, reserveEntry, Station.withReply]

/-- A request that is taken (R118). -/
theorem takeRequest_taken {s : Station} (h : s.takes) (code : Nat) (j : Station → Verdict) :
    takeRequest code j s = fillEntry code (j (reserveEntry code s)) := by
  have h2 : ¬ 4 ≤ s.link.replies.length := Nat.not_le.mpr h.2.2
  simp [takeRequest, h.2.1, Config.listEntries, h2]

/-- A list of refusals none of which holds is an acceptance. -/
theorem firstOf_accept {s : Station} {f : Station → Station} :
    ∀ {l : List (Bool × ReplyCode)}, (∀ x ∈ l, x.1 = false) → firstOf s f l = accept (f s)
  | [], _ => rfl
  | (c, rc) :: l, h => by
      have hc : c = false := h (c, rc) (by simp)
      have := firstOf_accept (s := s) (f := f) (l := l) fun x hx => h x (by simp [hx])
      simp [firstOf, hc, this]

/-- A verdict by a list of refusals is a refusal that leaves the station, or the acceptance. -/
theorem firstOf_cases (s : Station) (f : Station → Station) :
    ∀ l : List (Bool × ReplyCode), firstOf s f l = accept (f s) ∨ ∃ x ∈ l, x.1 = true ∧ firstOf s f l = refuse x.2 s
  | [] => .inl rfl
  | (true, rc) :: l => .inr ⟨(true, rc), by simp, rfl, rfl⟩
  | (false, rc) :: l => by
      rcases firstOf_cases s f l with h | ⟨x, hx, h1, h2⟩
      · exact .inl (by simpa [firstOf] using h)
      · exact .inr ⟨x, by simp [hx], h1, by simpa [firstOf] using h2⟩

/-! ## Filtered inputs, the idle seen, and the mark of one trigger -/

/-- A level held for the filter's time is taken (R31, R34). -/
theorem filtered_taken {heldMs : Nat} (h : 16 ≤ heldMs) (f : Station → Station) (s : Station) :
    filtered heldMs f s = f s := by
  simp [filtered, Config.filterMs, h]

/-- A level held for less than the filter's time changes nothing (R31, R34). -/
theorem filtered_short {heldMs : Nat} (h : heldMs < 16) (f : Station → Station) (s : Station) :
    filtered heldMs f s = s := by
  simp [filtered, Config.filterMs, Nat.not_le.mpr h]

/-- A frame after the first idle is taken (R108). -/
theorem heard_taken {s : Station} (h : s.link.idleSeen = true) (f : Station → Station) : heard f s = f s := by
  simp [heard, h]

/-- A frame before the first idle changes nothing (R108). -/
theorem heard_deaf {s : Station} (h : s.link.idleSeen = false) (f : Station → Station) : heard f s = s := by
  simp [heard, h]

@[simp] theorem endTx_tx (s : Station) : (endTx s).link.tx = none := rfl
@[simp] theorem endTx_presLeft (s : Station) : (endTx s).link.presLeft = none := rfl
@[simp] theorem endReport_joined (s : Station) : (endReport s).req.joined = 0 := rfl
@[simp] theorem endReport_cause (s : Station) : (endReport s).req.cause = s.req.cause := rfl
@[simp] theorem emptyPresence_pres (s : Station) : (emptyPresence s).link.pres = {} := rfl
@[simp] theorem idleOffer_idleSeen (s : Station) : (idleOffer s).link.idleSeen = true := by
  simp only [idleOffer]
  split <;> rfl

/-- Several causes of one event (R9) change of a station at most its pending mark. -/
theorem oneTrigger_eq (b s : Station) : ∃ m, oneTrigger b s = { s with keg.pendingMark := m } := by
  unfold oneTrigger
  split
  · exact ⟨_, rfl⟩
  · exact ⟨_, rfl⟩

/-- With a commit in flight as the event begins, a later trigger's mark stands (R11). -/
theorem oneTrigger_inFlight {b : Station} (h : b.keg.commit ≠ none) (s : Station) : oneTrigger b s = s := by
  simp [oneTrigger, h]

end Sys2Proof.Machine
end

