-- ==== Sys2Proof/Laws/Ops.lean ====
section
/-! SUPPORT. What the shared operations give, one lemma for each: flags, record writes, commit triggers, slots, grants,
standing conditions and the temperature check. -/
namespace Sys2Proof.Machine
open Sys2Proof

/-! ## Flags -/

/-- A flag already set is not newly set: nothing changes (R194). -/
theorem setFlag_of_set {f : Flag} {s : Station} (h : s.flag f = true) : setFlag f s = s := by
  simp [setFlag, h]

/-- The flags after a flag is set. -/
theorem setFlag_flags (f : Flag) (s : Station) (h : s.flag f = false) :
    (setFlag f s).req.flags = s.req.flags ||| f.bit := by
  unfold setFlag
  simp only [h]
  split <;> simp [placeReport] at * <;> split <;> rfl

/-! ## The record -/

/-- A write to the batch fields gives the batch written, or none where there is none. -/
theorem writeBatch_batch (f : Batch → Batch) (s : Station) : (writeBatch f s).keg.batch = s.keg.batch.map f := by
  unfold writeBatch
  split
  · next h => simp [h]
  · next b h => split <;> simp_all [noteChange]

/-- A write that changes no field is no change (R8). -/
theorem writeBatch_of_same {f : Batch → Batch} {s : Station} (h : ∀ b, s.keg.batch = some b → f b = b) :
    writeBatch f s = s := by
  unfold writeBatch
  split
  · rfl
  · next b hb => simp [h b hb]

/-- A trigger with a commit in flight sets the pending mark (R11). -/
theorem commitTrigger_of_inFlight {s : Station} (h : s.follower = false) (hl : s.keg.loaded = true)
    (hc : s.keg.commit.isSome = true) : commitTrigger s = { s with keg.pendingMark := true } := by
  simp [commitTrigger, h, hl, hc]

/-- A trigger with none in flight and something to commit starts a commit (R9). -/
theorem commitTrigger_of_idle {s : Station} (h : s.follower = false) (hl : s.keg.loaded = true)
    (hc : s.keg.commit = none) (hr : s.restartPending = false) (hp : s.keg.persist ≠ .clean) :
    commitTrigger s = startCommit s := by
  have : s.keg.persist.uncommitted = true := by
    cases hq : s.keg.persist <;> first | rfl | exact absurd hq hp
  simp [commitTrigger, h, hl, hc, hr, this]

/-- A trigger in CLEAN with none in flight starts none (R9). -/
theorem commitTrigger_of_clean {s : Station} (hc : s.keg.commit = none) (hp : s.keg.persist = .clean) :
    commitTrigger s = s := by
  simp [commitTrigger, hc, hp, Persist.uncommitted]

/-! ## Slots -/

@[simp] theorem Slot.place_free {α : Type} (sl : Slot α) (a : α) : sl.place false a = { held := some { body := a } } := rfl
@[simp] theorem Slot.place_onLine {α : Type} (sl : Slot α) (a : α) :
    sl.place true a = { sl with aside := some { body := a } } := rfl
@[simp] theorem Slot.sent_held {α : Type} (sl : Slot α) : sl.sent.held = sl.aside := rfl
@[simp] theorem Slot.sent_aside {α : Type} (sl : Slot α) : sl.sent.aside = none := rfl

/-! ## Grants -/

/-- Whatever a grant does, in-use stays within it where it was within the own demand's grant before (R93). -/
theorem PoolItem.granted_inUse_le (it : PoolItem) (held iso : Bool) (g : Nat) :
    (it.granted held iso g).inUse ≤ (it.granted held iso g).grant := by
  simp only [PoolItem.granted]
  split
  · exact Nat.zero_le _
  · split
    · exact Nat.le_refl _
    · next h =>
        simp only [Bool.or_eq_true, decide_eq_true_eq, not_or] at h
        split <;> exact Nat.le_of_lt (Nat.lt_of_not_le h.2)

/-- The grant itself, in every case. -/
@[simp] theorem PoolItem.granted_grant (it : PoolItem) (held iso : Bool) (g : Nat) :
    (it.granted held iso g).grant = g := by
  simp only [PoolItem.granted]
  (repeat' split) <;> rfl

/-- A grant leaves the claims and the budget. -/
@[simp] theorem PoolItem.granted_claims (it : PoolItem) (held iso : Bool) (g : Nat) :
    (it.granted held iso g).posted = it.posted ∧ (it.granted held iso g).own = it.own ∧
      (it.granted held iso g).lastSent = it.lastSent ∧ (it.granted held iso g).budget = it.budget := by
  simp only [PoolItem.granted]
  (repeat' split) <;> exact ⟨rfl, rfl, rfl, rfl⟩

/-! ## The pressure unit's decision at a change of GAS in-use -/

/-- With GAS in-use unchanged nothing is decided (R60). -/
theorem gasDecided_same (f : Station → Station) (s : Station)
    (h : (f s).pools.items.gas.inUse = s.pools.items.gas.inUse) : gasDecided f s = f s := by
  simp only [gasDecided, h, if_true]

/-- With GAS in-use changed the vent and the band's request are decided from their present states (R60, R66, R67). -/
theorem gasDecided_changed (f : Station → Station) (s : Station)
    (h : (f s).pools.items.gas.inUse ≠ s.pools.items.gas.inUse) : gasDecided f s = decideAsIs (f s) := by
  simp only [gasDecided, h, if_false]

/-- A second decision of the vent on the same levels changes nothing (R66), which is why a decision's own posting needs none
(log 52). -/
theorem bandVent_again (v : Bool) (p u l : Nat) (h : l ≤ u) : bandVent (bandVent v p u l) p u l = bandVent v p u l := by
  cases v <;> simp only [bandVent] <;> split <;> simp_all <;> omega

/-- The same for the CARB band's request (R67). -/
theorem Station.bandNext_again (s : Station) (r : Bool) : s.bandNext (s.bandNext r) = s.bandNext r := by
  simp only [Station.bandNext]
  split
  · split
    · rfl
    · cases r <;> simp <;> omega
  · rfl

/-! ## Conditions and the temperature check -/

/-- A condition brought to the value it has: nothing (R161). -/
theorem setCond_same {k : FaultKind} {v : Bool} {s : Station} (h : s.stands k = v) : setCond k v s = s := by
  simp [setCond, h]

/-- With OVERTEMP and UNDERTEMP withdrawn, bringing both to withdrawn changes nothing, whatever the timers. -/
theorem setCond_calm {s : Station} (o u : Nat) (h1 : s.exc.overtemp = false) (h2 : s.exc.undertemp = false) :
    setCond .undertemp false (setCond .overtemp false { s with exc.overS := o, exc.underS := u }) =
      { s with exc.overS := o, exc.underS := u } := by
  have e1 : setCond .overtemp false { s with exc.overS := o, exc.underS := u } =
      { s with exc.overS := o, exc.underS := u } := setCond_same (by simp [Station.stands, h1])
  rw [e1]
  exact setCond_same (by simp [Station.stands, h2])

/-- A timer that does not advance stays below its top. -/
theorem checkTimer_lt {runs : Bool} {top n : Nat} (h : n < top) : checkTimer runs false top n < top := by
  unfold checkTimer
  cases runs
  · exact Nat.lt_of_le_of_lt (Nat.zero_le _) h
  · exact h

/-- With nothing to report, the check that counts no second changes its two timers at most (R162). -/
theorem tempCheck_calm {s : Station} (h : s.calm) :
    ∃ o u, tempCheck false s = { s with exc.overS := o, exc.underS := u } := by
  obtain ⟨ht, ho, hu, h1, h2⟩ := h
  unfold tempCheck
  split
  · exact ⟨0, 0, setCond_calm 0 0 h1 h2⟩
  · next t sp hc =>
      have hs : s.tAvg = some t := by
        simp only [Station.checked] at hc
        revert hc
        (repeat' split) <;> simp_all
      have hlt : ¬ 350 < t := by simpa [hs] using ht
      have ho' := Nat.ne_of_lt (checkTimer_lt (runs := decide (sp + 40 < t)) (top := Config.overtempS) ho)
      have hu' := Nat.ne_of_lt (checkTimer_lt (runs := decide (t < -25)) (top := Config.undertempS) hu)
      simp only [ho', hu', hlt, or_self, decide_false]
      exact ⟨_, _, setCond_calm _ _ h1 h2⟩

/-- A change of the setpoint on a station with nothing to report has no effect of its own but on the two timers, and on the
pending mark of an event that had set it (R9). -/
theorem withSetpoint_calm {f : Station → Station} {s : Station} (h : (f s).calm) :
    ∃ o u m, withSetpoint f s = { f s with exc.overS := o, exc.underS := u, keg.pendingMark := m } := by
  unfold withSetpoint
  simp only
  split
  · exact ⟨_, _, _, rfl⟩
  · obtain ⟨o, u, e⟩ := tempCheck_calm h
    obtain ⟨m, e'⟩ := oneTrigger_eq s (tempCheck false (f s))
    rw [e', e]
    exact ⟨o, u, m, rfl⟩

/-! ## Images and their checks -/

/-- The two bytes that follow a list read as the number they were made from. -/
theorem at16_append_be16 (l : List Byte) (c : BitVec 16) : at16 (l ++ be16 c.toNat) l.length = c.toNat := by
  have h : c.toNat < 65536 := c.isLt
  simp [at16, at8, be16, byte]
  omega

/-- The contents stay where the checksum is overwritten (R202). -/
theorem invalidate_take (n : Nat) (l : List Byte) (h : n ≤ l.length) : (invalidate n l).take n = l.take n := by
  simp [invalidate, h]

/-- An invalidated image never checks (R14, R202). -/
@[simp] theorem imageValid_invalidate (n : Nat) (l : List Byte) : imageValid n (invalidate n l) = false := by
  rcases Nat.lt_or_ge l.length n with h | h
  · simp [imageValid, invalidate, be16]; omega
  · have hl : (l.take n).length = n := by simp [h]
    have := at16_append_be16 (l.take n) (~~~ crcBytes (l.take n))
    rw [hl] at this
    rw [imageValid, invalidate_take n l h, Bool.and_eq_false_iff]
    right
    simp only [invalidate, this, beq_eq_false_iff_ne, ne_eq]
    intro e
    have e := BitVec.eq_of_toNat_eq e
    revert e
    generalize crcBytes (l.take n) = c
    intro e
    have := congrArg (fun x => x.getLsbD 0) e
    simp at this

end Sys2Proof.Machine
end

