-- ==== Sys2Proof/WellFormed.lean ====
section
/-! DEFINITION. Which commands the bay, the line and the panel node can send at all. The machine gives every command a
meaning; a command that is not well formed here is one that no sender of the spec produces. -/
namespace Sys2Proof

/-- R188: a request is at most 16 parts of 13 argument bytes. -/
def maxArgBytes : Nat := 208

/-- R109: the length field goes to 16 payload bytes. -/
def maxPayload : Nat := 16

/-- R20: a completed conversion lies from −999 to +999. -/
def conversionOk : Option Int → Bool
  | none => true
  | some t => decide (-999 ≤ t ∧ t ≤ 999)

/-- R109: a frame begins with its dominant start bit, has at most 168 bits, and at least the 21 up to its length field. -/
def frameBitsOk (bits : List Bool) : Bool := decide (bits.head? = some false ∧ 21 ≤ bits.length ∧ bits.length ≤ 168)

/-- The well-formed commands. -/
def WellFormed : Instr → Bool
  | .startBatch a | .editStep a | .advanceStep a | .runProgram a | .pauseProgram a | .endBatch a | .pour a
  | .cancelPour a | .lockTap a | .unlockTap a | .freezeTap a | .resume a | .releaseLockout a | .leakTest a
  | .abortTest a | .commit a | .writeSetup a | .query a | .clearEvents a | .setReportMask a | .restart a =>
      decide (a.length ≤ maxArgBytes)
  | .requestPartReceived p => decide (p.length ≤ maxPayload)
  | .claimNoticeReceived _ p | .presenceNoticeReceived _ p | .excursionNoticeReceived _ p =>
      decide (p.length ≤ maxPayload)
  | .frameReceived bits => frameBitsOk bits
  | .probeSample _ c => conversionOk c
  | .powerOn _ | .pinReset _ | .restartBegin _ | .referenceCheckDone _ _ | .presencePlacement | .rollCallWindowEnd
  | .lineIdleOffer | .arbitrationLost | .sendBitError | .sendSuccess | .noticeIntervalBoundary
  | .claimOffsetPlacement | .claimSpacingExpiry | .probePlacement | .silenceTimerExpiry | .settleTimerExpiry _
  | .overdrawAssert _ | .overdrawDeassert _ | .backoffTimerExpiry | .chillRdyAssert _ | .chillRdyDeassert _
  | .chillStarvationExpiry | .handlePress _ | .handleRelease _ | .kegInsertion _ | .kegRemoval _ | .holdTimerExpiry _
  | .overtempTimerExpiry | .undertempTimerExpiry | .pressureConversion _ | .flowPulse _ _ | .rateBinEnd
  | .foamTimeExpiry | .controlPeriodStart | .glycolOpenTimeEnd | .heaterOnTimeEnd | .crashInBandExpiry
  | .stepMinuteRise | .batchMinuteRise | .pressurePeriod | .hourEnd | .gasOpenTimerExpiry | .primingExpiry
  | .pauseExpiry | .pourTimeLimitExpiry | .drainWindowEnd | .clearanceTimerExpiry | .leakTestTimerExpiry
  | .commitTimerExpiry | .commitComplete | .setupWriteComplete | .powerLoss => true

end Sys2Proof
end

