-- ==== Sys2Proof/Laws/PerInstr.lean ====
section
/-! SUPPORT. The family `Sender`, one lemma for each command: a well-formed command that is a request has one of the 21
request codes and no more argument bytes than 16 parts carry. -/
namespace Sys2Proof.Laws.Sender
open Sys2Proof Sys2Proof.Machine

/-- R188, R201: the code and the arguments of a well-formed request. -/
def Statement (i : Instr) : Prop :=
  WellFormed i = true →
    ∀ code args, requestOf i = some (code, args) → 1 ≤ code ∧ code ≤ 21 ∧ args.length ≤ maxArgBytes

/-- A command that is no request. -/
theorem of_none {i : Instr} (h : requestOf i = none) : Statement i := by
  intro _ c a e
  simp [h] at e

/-- A request within the bound of R188. -/
theorem of_some {i : Instr} {c : Nat} {a : List Byte} (h : requestOf i = some (c, a)) (hc : 1 ≤ c ∧ c ≤ 21)
    (hw : WellFormed i = true → a.length ≤ maxArgBytes) : Statement i := by
  intro w c' a' e
  rw [h] at e
  cases e
  exact ⟨hc.1, hc.2, hw w⟩

theorem powerOn (pins : Pins) : Statement (.powerOn pins) := of_none rfl
theorem pinReset (pins : Pins) : Statement (.pinReset pins) := of_none rfl
theorem restartBegin (pins : Pins) : Statement (.restartBegin pins) := of_none rfl
theorem referenceCheckDone (beer jacket : Option (BitVec 5)) : Statement (.referenceCheckDone beer jacket) :=
  of_none rfl
theorem presencePlacement : Statement .presencePlacement := of_none rfl
theorem rollCallWindowEnd : Statement .rollCallWindowEnd := of_none rfl
theorem startBatch (args : List Byte) : Statement (.startBatch args) :=
  of_some rfl (by decide) (fun w => by simpa [WellFormed] using w)
theorem editStep (args : List Byte) : Statement (.editStep args) :=
  of_some rfl (by decide) (fun w => by simpa [WellFormed] using w)
theorem advanceStep (args : List Byte) : Statement (.advanceStep args) :=
  of_some rfl (by decide) (fun w => by simpa [WellFormed] using w)
theorem runProgram (args : List Byte) : Statement (.runProgram args) :=
  of_some rfl (by decide) (fun w => by simpa [WellFormed] using w)
theorem pauseProgram (args : List Byte) : Statement (.pauseProgram args) :=
  of_some rfl (by decide) (fun w => by simpa [WellFormed] using w)
theorem endBatch (args : List Byte) : Statement (.endBatch args) :=
  of_some rfl (by decide) (fun w => by simpa [WellFormed] using w)
theorem pour (args : List Byte) : Statement (.pour args) :=
  of_some rfl (by decide) (fun w => by simpa [WellFormed] using w)
theorem cancelPour (args : List Byte) : Statement (.cancelPour args) :=
  of_some rfl (by decide) (fun w => by simpa [WellFormed] using w)
theorem lockTap (args : List Byte) : Statement (.lockTap args) :=
  of_some rfl (by decide) (fun w => by simpa [WellFormed] using w)
theorem unlockTap (args : List Byte) : Statement (.unlockTap args) :=
  of_some rfl (by decide) (fun w => by simpa [WellFormed] using w)
theorem freezeTap (args : List Byte) : Statement (.freezeTap args) :=
  of_some rfl (by decide) (fun w => by simpa [WellFormed] using w)
theorem resume (args : List Byte) : Statement (.resume args) :=
  of_some rfl (by decide) (fun w => by simpa [WellFormed] using w)
theorem releaseLockout (args : List Byte) : Statement (.releaseLockout args) :=
  of_some rfl (by decide) (fun w => by simpa [WellFormed] using w)
theorem leakTest (args : List Byte) : Statement (.leakTest args) :=
  of_some rfl (by decide) (fun w => by simpa [WellFormed] using w)
theorem abortTest (args : List Byte) : Statement (.abortTest args) :=
  of_some rfl (by decide) (fun w => by simpa [WellFormed] using w)
theorem commit (args : List Byte) : Statement (.commit args) :=
  of_some rfl (by decide) (fun w => by simpa [WellFormed] using w)
theorem writeSetup (args : List Byte) : Statement (.writeSetup args) :=
  of_some rfl (by decide) (fun w => by simpa [WellFormed] using w)
theorem query (args : List Byte) : Statement (.query args) :=
  of_some rfl (by decide) (fun w => by simpa [WellFormed] using w)
theorem clearEvents (args : List Byte) : Statement (.clearEvents args) :=
  of_some rfl (by decide) (fun w => by simpa [WellFormed] using w)
theorem setReportMask (args : List Byte) : Statement (.setReportMask args) :=
  of_some rfl (by decide) (fun w => by simpa [WellFormed] using w)
theorem restart (args : List Byte) : Statement (.restart args) :=
  of_some rfl (by decide) (fun w => by simpa [WellFormed] using w)
theorem requestPartReceived (payload : List Byte) : Statement (.requestPartReceived payload) := of_none rfl
theorem claimNoticeReceived (sender : BitVec 3) (payload : List Byte) :
    Statement (.claimNoticeReceived sender payload) :=
  of_none rfl
theorem presenceNoticeReceived (sender : BitVec 3) (payload : List Byte) :
    Statement (.presenceNoticeReceived sender payload) :=
  of_none rfl
theorem excursionNoticeReceived (sender : BitVec 3) (payload : List Byte) :
    Statement (.excursionNoticeReceived sender payload) :=
  of_none rfl
theorem frameReceived (bits : List Bool) : Statement (.frameReceived bits) := of_none rfl
theorem lineIdleOffer : Statement .lineIdleOffer := of_none rfl
theorem arbitrationLost : Statement .arbitrationLost := of_none rfl
theorem sendBitError : Statement .sendBitError := of_none rfl
theorem sendSuccess : Statement .sendSuccess := of_none rfl
theorem noticeIntervalBoundary : Statement .noticeIntervalBoundary := of_none rfl
theorem claimOffsetPlacement : Statement .claimOffsetPlacement := of_none rfl
theorem claimSpacingExpiry : Statement .claimSpacingExpiry := of_none rfl
theorem probePlacement : Statement .probePlacement := of_none rfl
theorem silenceTimerExpiry : Statement .silenceTimerExpiry := of_none rfl
theorem settleTimerExpiry (pool : Pool) : Statement (.settleTimerExpiry pool) := of_none rfl
theorem overdrawAssert (heldMs : Nat) : Statement (.overdrawAssert heldMs) := of_none rfl
theorem overdrawDeassert (heldMs : Nat) : Statement (.overdrawDeassert heldMs) := of_none rfl
theorem backoffTimerExpiry : Statement .backoffTimerExpiry := of_none rfl
theorem chillRdyAssert (heldMs : Nat) : Statement (.chillRdyAssert heldMs) := of_none rfl
theorem chillRdyDeassert (heldMs : Nat) : Statement (.chillRdyDeassert heldMs) := of_none rfl
theorem chillStarvationExpiry : Statement .chillStarvationExpiry := of_none rfl
theorem handlePress (heldMs : Nat) : Statement (.handlePress heldMs) := of_none rfl
theorem handleRelease (heldMs : Nat) : Statement (.handleRelease heldMs) := of_none rfl
theorem kegInsertion (heldMs : Nat) : Statement (.kegInsertion heldMs) := of_none rfl
theorem kegRemoval (heldMs : Nat) : Statement (.kegRemoval heldMs) := of_none rfl
theorem probeSample (probe : ProbeId) (conversion : Option Int) : Statement (.probeSample probe conversion) :=
  of_none rfl
theorem holdTimerExpiry (probe : ProbeId) : Statement (.holdTimerExpiry probe) := of_none rfl
theorem overtempTimerExpiry : Statement .overtempTimerExpiry := of_none rfl
theorem undertempTimerExpiry : Statement .undertempTimerExpiry := of_none rfl
theorem pressureConversion (reading : Option Int) : Statement (.pressureConversion reading) := of_none rfl
theorem flowPulse (widthUs : Nat) (roseBeforeStart : Bool) : Statement (.flowPulse widthUs roseBeforeStart) :=
  of_none rfl
theorem rateBinEnd : Statement .rateBinEnd := of_none rfl
theorem foamTimeExpiry : Statement .foamTimeExpiry := of_none rfl
theorem controlPeriodStart : Statement .controlPeriodStart := of_none rfl
theorem glycolOpenTimeEnd : Statement .glycolOpenTimeEnd := of_none rfl
theorem heaterOnTimeEnd : Statement .heaterOnTimeEnd := of_none rfl
theorem crashInBandExpiry : Statement .crashInBandExpiry := of_none rfl
theorem stepMinuteRise : Statement .stepMinuteRise := of_none rfl
theorem batchMinuteRise : Statement .batchMinuteRise := of_none rfl
theorem pressurePeriod : Statement .pressurePeriod := of_none rfl
theorem hourEnd : Statement .hourEnd := of_none rfl
theorem gasOpenTimerExpiry : Statement .gasOpenTimerExpiry := of_none rfl
theorem primingExpiry : Statement .primingExpiry := of_none rfl
theorem pauseExpiry : Statement .pauseExpiry := of_none rfl
theorem pourTimeLimitExpiry : Statement .pourTimeLimitExpiry := of_none rfl
theorem drainWindowEnd : Statement .drainWindowEnd := of_none rfl
theorem clearanceTimerExpiry : Statement .clearanceTimerExpiry := of_none rfl
theorem leakTestTimerExpiry : Statement .leakTestTimerExpiry := of_none rfl
theorem commitTimerExpiry : Statement .commitTimerExpiry := of_none rfl
theorem commitComplete : Statement .commitComplete := of_none rfl
theorem setupWriteComplete : Statement .setupWriteComplete := of_none rfl
theorem powerLoss : Statement .powerLoss := of_none rfl

end Sys2Proof.Laws.Sender
end

