-- ==== Sys2Proof/Tests/Slice0.lean ====
section
/-! SUPPORT. The checks of well-formedness on ill-formed commands, the manual's worked examples, and for every
statement with hypotheses a state and operands that meet all of them. -/
namespace Sys2Proof.Tests
open Sys2Proof Sys2Proof.Machine
set_option Elab.async false
set_option linter.unusedVariables false

/-! ## Small states -/

def carbStep : Machine.Step := { tag := .serve, target := 40, duration := some 60, mode := .carb }
def freeStep : Machine.Step := { tag := .serve, target := 30 }
def spundStep : Machine.Step := { tag := .ferment, target := 40, mode := .spund, spund := some 90 }
def crashStep : Machine.Step := { kind := .crash, tag := .condition, target := 10 }

/-- A batch in SERVE. -/
def beer : Batch :=
  { number := 7, phase := .serve, fill := 19000, remaining := 9000, total := 10000, pours := 3, kegEmpty := false
    target := 250, est := none, profile := [carbStep, freeStep], stepIdx := 0, stepMin := 0, rampStart := 40
    run := true, programEnd := false, batchMin := 10 }

/-- A batch on another first step. -/
def onStep (st : Machine.Step) : Batch := { beer with phase := st.tag, profile := [st, freeStep] }

/-- A single station past its window, NORMAL, with a batch and a keg. -/
def bay : Station :=
  { start := { phase := .running, id := 3, setup := { hmax := 10 } }
    sense :=
      { beer := { hist := [60, 60, 60, 60], state := .ok }, jacket := { hist := [40, 40, 40, 40], state := .ok }
        sampling := true, p := 100, keg := true, ackKeg := true, chillRdy := true }
    keg := { batch := some beer, loaded := true, persist := .dirty, timerMs := some 5 }
    prog := { cycleOn := true }
    press := { on := true }
    pools := { silenceMs := some 100 }
    exc := { h := false }
    link := { idleSeen := true } }

def now (s : Station) : State := ⟨s, []⟩

def noBatch : Station := { bay with keg := { loaded := true } }
def follower : Station := { noBatch with start.role := .follower, prog.pair := .following }

/-- SAFE_HOLD for a kind. -/
def held (k : FaultKind) : Station :=
  { bay with
    exc.state := .safeHold, exc.h := true, exc.kind := some k, exc.clearMs := some 300000, exc.holdMs := some 0 }

def locked : Station := { bay with exc.state := .lockout, exc.h := true, exc.kind := some .leak }
def restarting : Station := { bay with req.restart := some .done }
def inWindow (r : Role) : Station :=
  { bay with start.phase := .window, start.boundaries := 4, start.role := r, exc.h := true, prog.cycleOn := false }

def glass : Order := ⟨1, .glass, 300, none, .immediate⟩
def onHandle : Order := ⟨2, .sample, 50, some 9, .onHandle⟩
def active : ActivePour := ⟨1, .glass, 300, some 260, 22, 40, .active, 0, some 2000, 100, 3450, true⟩
def pouring : Station :=
  { bay with pour.queue := [glass, onHandle], pour.active := some active, pour.tap := true, sense.pulses := 500 }
def waiting (st : Stage) : Station :=
  { pouring with pour.active := some { active with stage := st }, pour.tap := false }
def manual : Station :=
  { pouring with pour.active := some { active with tag := 0 }, sense.handle := true }
def drained (o : PourOutcome) (v : Nat) : DrainPour := ⟨1, .glass, 300, 40, o, 34, 260, v, true, 0⟩

def claim : ClaimNotice := ⟨.single, 4, ⟨{}, {}, {}⟩, none, true, none, 0, 0⟩
def sending (k : TxKind) (r : Nat) : Station :=
  { bay with
    link.tx := some k
    link.claim := { held := some ⟨claim, r⟩ }
    link.evt := { held := some ⟨⟨[], 3⟩, r⟩ }
    link.exc := { held := some ⟨⟨.single, .normal, none⟩, r⟩ }
    link.pres := { held := some ⟨⟨.single, ⟨30, 16, 2⟩⟩, r⟩ }
    link.replies := [{ code := 16, retries := r }]
    link.reports := [⟨⟨1, .glass, 300, 270, 34, .done⟩, r⟩] }
def claimBytes : List Byte := [0x38, 4, 3, 4, 0x12, 0x80, 0, 60, 0, 40, 0, 0]
def peer (n : Nat) (r : Role) : Peer := { id := n, role := r, seq := some 9 }
def item (g u b : Nat) (c : Claim) (l : Option Nat) : PoolItem := ⟨c, c, some c, g, u, l, 1000, b⟩
def pooled : Station :=
  { bay with
    pools.items := ⟨item 8 5 30 ⟨8, .hold⟩ (some 8), item 4 4 16 ⟨4, .pull⟩ none, item 1 0 2 ⟨1, .hold⟩ (some 1)⟩
    pools.peers := [peer 2 .single, peer 5 .single] }
def test10 : LeakTest := ⟨10, 110, 211, 55, 8, 600000⟩
def image : List Byte := (Rec.mk (some beer) true).image
def checking (r : Role) (i : List Byte) : Station := { nv := { image := i }, start := { role := r } }
def committing (d : Bool) (c p : Bool) : Station :=
  { bay with keg.commit := some ⟨⟨some beer, false⟩, d⟩, keg.changeMark := c, keg.pendingMark := p }
def legalCommit : Station := { committing false false true with keg.timerMs := none }
def orphan : Station := { follower with prog.pair := .orphan, prog.lastS := some 40 }
def warm (x : Int) (s : Station) : Station := { s with sense.beer := { hist := [x, x, x, x], state := .ok } }
def withBatch (b : Batch) : Station := { bay with keg.batch := some b }
def foreign : Frame := ⟨5, 14, 15, 3, [1, 2]⟩
def noted : ClaimNotice := ⟨.single, 0, ⟨⟨8, .hold⟩, ⟨4, .pull⟩, ⟨1, .hold⟩⟩, some 60, true, some 40, 0, 0⟩
def asking : Station :=
  { pooled with link.seq := some 255, link.spacingMs := some 0, link.extraHeld := true, pools.items.heat.lastSent :=
    none }
def full : Station := { bay with link.replies := List.replicate 4 { code := 1 } }
def assembling (s : Station) : Station := { s with req.asm := some ⟨1, 3, 1, [7]⟩ }
def longReply : ReplyEntry := { code := 18, answer := some (.status (List.replicate 60 0)) }
/-- A lead whose claim notice has made its last retry while its HEAT raise waits to be sent. -/
def raising (spacing : Option Nat) : Station :=
  { sending .claim 3 with
    pools.items.heat := { item 8 0 30 ⟨8, .hold⟩ (some 8) with lastSent := none }, link.spacingMs := spacing }
def offHeat : Station :=
  { pooled with pools.items.heat := item 8 0 30 ⟨8, .hold⟩ none, pools.overdrawHold := true, pools.backoffMs := some 0 }
def quietStep : Machine.Step := { tag := .serve, target := 40, threshold := some 50 }
def hourOf (a : Nat) : ActRec := ⟨1, .spund, some a⟩
/-- A HOLD with an activity threshold of 50, and twelve hours on the log, the newest of activity `a`. -/
def quiet (a : Nat) : Station :=
  { withBatch (onStep quietStep) with press.log := List.replicate 11 (hourOf 49) ++ [hourOf a] }
def jacketAt (x : Int) : Station := { bay with sense.jacket := { hist := [x, x, x, x], state := .ok } }
def paired : Station :=
  { bay with
    start.role := .lead, prog.pair := .leadPaired
    pools.peers := [{ peer 4 .follower with temp := some 62, probeOk := true }] }
def window999 (err : Nat) : Station := { bay with health.winCount := 999, health.winErr := err }
def poured (ml gas : Nat) : Station :=
  { bay with pour.drain := some (drained .done 270), health.poured := ml, health.gasCount := gas }
def crashing (m : ChillMeas) : Station := { warm 15 (withBatch (onStep crashStep)) with health.meas := some m }
def cooling : Batch := { beer with profile := [carbStep, crashStep] }
/-- A CRASH with a measurement under way and one more step to come. -/
def endsCrash (m : ChillMeas) : Station := { withBatch (onStep crashStep) with health.meas := some m }
def rampStep : Machine.Step := { kind := .ramp, tag := .serve, target := 40, duration := some 60, mode := .free }
/-- CARB: gas stands requested and granted, and its settle timer is about to run out. -/
def carbWaits : Station :=
  { pooled with press.pt := some 120, press.bandReq := true }
/-- Gas for a pour in PRIMING stands granted, and its settle timer is about to run out. -/
def primeWaits : Station :=
  { waiting .priming with
    press.primReq := true
    pools.items := ⟨item 0 0 30 {} none, item 0 0 16 {} none, item 1 0 2 ⟨1, .pour⟩ (some 1)⟩ }
/-- The arguments of a START_BATCH of one step. -/
def good : List Byte := [0, 1, 0x4A, 0x38, 0, 0xFA, 1, 0, 1, 0, 40, 0, 60, 0, 0, 2, 0]
def pins (pair : BitVec 2) (id : BitVec 3) : Pins := ⟨id, pair, false, true, true, false⟩

/-! ## Well-formedness -/

theorem test_long_arguments_are_ill_formed :
    WellFormed (.query (List.replicate 209 0)) = false ∧ WellFormed (.query (List.replicate 208 0)) = true := by
  decide +kernel
theorem test_long_payloads_are_ill_formed :
    WellFormed (.claimNoticeReceived 1 (List.replicate 17 0)) = false ∧
      WellFormed (.presenceNoticeReceived 1 (List.replicate 17 0)) = false ∧
      WellFormed (.excursionNoticeReceived 1 (List.replicate 17 0)) = false ∧
      WellFormed (.requestPartReceived (List.replicate 17 0)) = false ∧
      WellFormed (.requestPartReceived (List.replicate 16 0)) = true := by
  decide
theorem test_frames_of_no_legal_length_are_ill_formed :
    WellFormed (.frameReceived (List.replicate 20 false)) = false ∧
      WellFormed (.frameReceived (List.replicate 169 false)) = false ∧
      WellFormed (.frameReceived (List.replicate 168 true)) = false ∧
      WellFormed (.frameReceived (List.replicate 168 false)) = true := by
  decide +kernel
theorem test_conversions_out_of_range_are_ill_formed :
    WellFormed (.probeSample .beer (some 1000)) = false ∧ WellFormed (.probeSample .jacket (some (-1000))) = false ∧
      WellFormed (.probeSample .beer (some (-999))) = true := by
  decide
theorem test_no_word_spells_a_command : decodeTableWord 8 0 = none ∧ (now bay).withFetchWord 8 0 = now bay :=
  ⟨rfl, rfl⟩

/-! ## Worked examples of the manual -/

/-- The solubility and the carbonation target (worked computation of chapter 4). -/
theorem test_worked_carbonation :
    solubility 37 = 150 ∧ carbTarget 250 101 240 0 = (47, false) ∧ carbTarget 250 101 240 37 = (66, false) ∧
      carbTarget 250 101 240 100 = (102, false) := by
  decide
/-- HEAT, budget 30, stations 0, 2 and 5 (worked allocations of chapter 5). -/
theorem test_worked_allocation :
    let l := allocate 30 [⟨5, ⟨6, .pull⟩⟩, ⟨0, ⟨12, .hold⟩⟩, ⟨2, ⟨20, .recover⟩⟩]
    shareOf 0 l = 10 ∧ shareOf 2 l = 14 ∧ shareOf 5 l = 6 := by
  decide +kernel
/-- A pour that spans the counter's return to 0 (worked volume of chapter 2). -/
theorem test_worked_volume : ((513 : BitVec 32) - 4294966000).toNat * 1000 / 4500 = 402 := by
  decide
/-- The codes in use of the worked calibration of chapter 2. -/
theorem test_worked_codes :
    codeInUse .auto 7 19 = 19 ∧ codeInUse .fixed 12 19 = 12 ∧ codeInUse .less 5 19 = 14 ∧
      codeInUse .less 25 19 = 0 ∧ codeInUse .more 20 19 = 31 := by
  decide
/-- A committed image loads as what was committed. -/
theorem test_image_loads : loadImage (Rec.mk (some beer) true).image = some ⟨some beer, true⟩ := by
  decide +kernel

/-! ## Premises -/

/-- Premises of `Obligations.IdleStepIsOneMillisecond`. -/
theorem test_idle_step_is_one_millisecond_premises :
    ∃ a : Station, a.powered = true :=
  ⟨bay, by decide +kernel⟩

/-- Premises of `Obligations.SupplyAndItsLoss`. -/
theorem test_supply_and_its_loss_premises :
    (∃ s : State, s.station.tornOk ∧ s.station.keg.commit.isSome = true ∧ s.station.nv.setupWrite.isSome = true) ∧
    (∃ (c : Instr) (s : State), s.station.start.phase = .off ∧ (∀ p, c ≠ .powerOn p) ∧ c ≠ .powerLoss) :=
  ⟨⟨now { committing false false false with nv.setupWrite := some [1] }, by decide +kernel⟩,
    ⟨.lineIdleOffer, now { bay with start.phase := .off }, by decide, (by intro p h; cases h), by decide⟩⟩

/-- Premises of `Obligations.StartGivesRoleAndStartValues`. -/
theorem test_start_gives_role_and_start_values_premises :
    (∃ (p : Pins) (s : State), s.station.powered = true ∧ p.pair = 0) ∧
    (∃ (p : Pins) (s : State), s.station.powered = true ∧ p.pair = 1 ∧ p.id ≠ 7) ∧
    (∃ (p : Pins) (s : State), s.station.powered = true ∧ p.pair = 1 ∧ p.id = 7) ∧
    (∃ (p : Pins) (s : State), s.station.powered = true ∧ p.pair = 2 ∧ p.id ≠ 0) ∧
    (∃ (p : Pins) (s : State), s.station.powered = true ∧ p.pair = 2 ∧ p.id = 0) ∧
    (∃ (p : Pins) (s : State), s.station.powered = true ∧ p.pair = 3) :=
  ⟨⟨pins 0 7, now bay, by decide +kernel⟩,
    ⟨pins 1 6, now bay, by decide +kernel⟩,
    ⟨pins 1 7, now bay, by decide +kernel⟩,
    ⟨pins 2 1, now bay, by decide +kernel⟩,
    ⟨pins 2 0, now bay, by decide +kernel⟩,
    ⟨pins 3 4, now bay, by decide +kernel⟩⟩

/-- Premises of `Obligations.ReferenceCheckLeadsToTheWindow`. -/
theorem test_reference_check_leads_to_the_window_premises :
    (∃ (beer jacket : Option (BitVec 5)) (s : State) (u : Setup), s.station.start.phase = .checking ∧
     s.station.sense.beer.hist = [] ∧ s.station.pour.active = none ∧ u = (readSetup s.station.nv.setupBlock).getD {} ∧
     readSetup s.station.nv.setupBlock = none ∧ s.station.start.role ≠ .follower ∧ s.station.exc.state = .normal ∧
     imageValid 146 s.station.nv.image = false) ∧
    (∃ (beer jacket : Option (BitVec 5)) (s : State) (u : Setup), s.station.start.phase = .checking ∧
     s.station.sense.beer.hist = [] ∧ s.station.pour.active = none ∧ u = (readSetup s.station.nv.setupBlock).getD {} ∧
     s.station.start.role ≠ .follower ∧ imageValid 146 s.station.nv.image = true) ∧
    (∃ (beer jacket : Option (BitVec 5)) (s : State) (u : Setup), s.station.start.phase = .checking ∧
     s.station.sense.beer.hist = [] ∧ s.station.pour.active = none ∧ u = (readSetup s.station.nv.setupBlock).getD {} ∧
     s.station.start.role = .follower) :=
  ⟨⟨some 31, none, now { start.phase := .checking }, {}, by decide +kernel⟩,
    ⟨some 0, none, now (checking .lead image), {}, by decide +kernel⟩,
    ⟨none, none, now (checking .follower image), {}, by decide +kernel⟩⟩

/-- Premises of `Obligations.RequestsAreRefusedOrDiscardedWhole`. -/
theorem test_requests_are_refused_or_discarded_whole_premises :
    (∃ (c : Instr) (code : Nat) (args : List Byte) (s : State), requestOf c = some (code, args) ∧ s.station.takes ∧
     (judge code args (reserveEntry code s.station)).rc ≠ .ok) ∧
    (∃ (c : Instr) (code : Nat) (args : List Byte) (s : State), requestOf c = some (code, args) ∧
     s.station.powered = true ∧ (s.station.keg.loaded = false ∨ 4 ≤ s.station.link.replies.length) ∧
     s.station.keg.loaded = false) ∧
    (∃ (c : Instr) (code : Nat) (args : List Byte) (s : State), requestOf c = some (code, args) ∧
     s.station.powered = true ∧ (s.station.keg.loaded = false ∨ 4 ≤ s.station.link.replies.length) ∧
     s.station.link.replies.length = 4) :=
  ⟨⟨.commit [1], 16, [1], now bay, by decide +kernel⟩,
    ⟨.commit [], 16, [], now { bay with keg.loaded := false }, by decide +kernel⟩,
    ⟨.commit [], 16, [], now { bay with link.replies := List.replicate 4 { code := 1 } }, by decide +kernel⟩⟩

/-- Premises of `Obligations.PartsOfARequestAreAssembled`. -/
theorem test_parts_of_a_request_are_assembled_premises :
    (∃ (code idx count : Byte) (args : List Byte) (s : State), s.station.powered = true ∧
     s.station.keg.loaded = true ∧ s.station.link.idleSeen = true ∧ idx = 0 ∧ count = 1 ∧
     s.station.link.replies.length = 3) ∧
    (∃ (code idx count : Byte) (args : List Byte) (s : State), s.station.powered = true ∧
     s.station.keg.loaded = true ∧ s.station.link.idleSeen = true ∧ idx = 0 ∧ count = 1 ∧
     s.station.link.replies.length = 4 ∧ s.station.req.asm.isSome = true) ∧
    (∃ (code idx count : Byte) (args : List Byte) (s : State), s.station.powered = true ∧
     s.station.keg.loaded = true ∧ s.station.link.idleSeen = true ∧ idx = 0 ∧ count = 16) ∧
    (∃ (code idx count : Byte) (args : List Byte) (s : State), s.station.powered = true ∧
     s.station.keg.loaded = true ∧ s.station.link.idleSeen = true ∧ idx = 0 ∧ count = 2 ∧
     s.station.req.asm.isSome = true) ∧
    (∃ (code idx count : Byte) (args : List Byte) (s : State), s.station.powered = true ∧
     s.station.keg.loaded = true ∧ s.station.link.idleSeen = true ∧ s.station.req.asm = some ⟨1, 3, 1, [7]⟩ ∧
     idx = 1 ∧ code = 1 ∧ count = 3) ∧
    (∃ (code idx count : Byte) (args : List Byte) (s : State), s.station.powered = true ∧
     s.station.keg.loaded = true ∧ s.station.link.idleSeen = true ∧ s.station.req.asm = some ⟨1, 2, 1, [7]⟩ ∧
     idx = 1 ∧ code = 1 ∧ count = 2 ∧ s.station.link.replies.length < 4) ∧
    (∃ (code idx count : Byte) (args : List Byte) (s : State), s.station.powered = true ∧
     s.station.keg.loaded = true ∧ s.station.link.idleSeen = true ∧ s.station.req.asm = some ⟨1, 2, 1, [7]⟩ ∧
     idx = 1 ∧ code = 1 ∧ count = 2 ∧ s.station.link.replies.length = 4) ∧
    (∃ (code idx count : Byte) (args : List Byte) (s : State), s.station.powered = true ∧
     s.station.keg.loaded = true ∧ s.station.link.idleSeen = true ∧ s.station.req.asm = some ⟨1, 3, 1, [7]⟩ ∧
     idx = 2 ∧ code = 1 ∧ count = 3) ∧
    (∃ (p : List Byte) (s : State), s.station.powered = true ∧ s.station.keg.loaded = true ∧
     s.station.link.idleSeen = true ∧ (p.length < 3 ∨ p.getD 2 0 = 0 ∨ 16 < (p.getD 2 0).toNat) ∧ p.length = 2) ∧
    (∃ (p : List Byte) (s : State), s.station.powered = true ∧ s.station.keg.loaded = true ∧
     s.station.link.idleSeen = true ∧ (p.length < 3 ∨ p.getD 2 0 = 0 ∨ 16 < (p.getD 2 0).toNat) ∧ p.getD 2 0 = 0) ∧
    (∃ (p : List Byte) (s : State), s.station.powered = true ∧ s.station.keg.loaded = true ∧
     s.station.link.idleSeen = true ∧ (p.length < 3 ∨ p.getD 2 0 = 0 ∨ 16 < (p.getD 2 0).toNat) ∧ p.getD 2 0 = 17) ∧
    (∃ (p : List Byte) (s : State), s.station.powered = true ∧ s.station.keg.loaded = false ∧
     s.station.link.idleSeen = true) :=
  ⟨⟨16, 0, 1, [], now { bay with link.replies := List.replicate 3 { code := 1 } }, by decide +kernel⟩,
    ⟨16, 0, 1, [], now (assembling full), by decide +kernel⟩,
    ⟨1, 0, 16, [7], now bay, by decide +kernel⟩,
    ⟨1, 0, 2, [7], now (assembling bay), by decide +kernel⟩,
    ⟨1, 1, 3, [7], now (assembling bay), by decide +kernel⟩,
    ⟨1, 1, 2, [7], now { bay with req.asm := some ⟨1, 2, 1, [7]⟩ }, by decide +kernel⟩,
    ⟨1, 1, 2, [7], now { full with req.asm := some ⟨1, 2, 1, [7]⟩ }, by decide +kernel⟩,
    ⟨1, 2, 3, [7], now (assembling bay), by decide +kernel⟩,
    ⟨[16, 0], now (assembling bay), by decide +kernel⟩,
    ⟨[16, 0, 0], now bay, by decide +kernel⟩,
    ⟨[16, 0, 17], now (assembling bay), by decide +kernel⟩,
    ⟨[16, 0, 1], now { bay with keg.loaded := false }, by decide +kernel⟩⟩

/-- Premises of `Obligations.StartBatchStartsABatch`. -/
theorem test_start_batch_starts_a_batch_premises :
    (∃ (a : List Byte) (p : List Machine.Step) (s : State), s.station.admitsOwn ∧ s.station.calm ∧ 7 ≤ a.length ∧
     a.length = 7 + 10 * at8 a 6 ∧ s.station.exc.state ≠ .lockout ∧ s.station.health.test = none ∧
     s.station.keg.batch = none ∧ s.station.sense.keg = true ∧ readProfile s.station.start.setup.pr a = some p) ∧
    (∃ (a : List Byte) (p : List Machine.Step) (s : State), s.station.admitsOwn ∧ s.station.calm ∧ 7 ≤ a.length ∧
     a.length = 7 + 10 * at8 a 6 ∧ s.station.exc.state ≠ .lockout ∧ s.station.health.test = none ∧
     s.station.keg.batch = none ∧ s.station.sense.keg = true ∧ readProfile s.station.start.setup.pr a = some p ∧
     s.station.exc.state = .safeHold ∧ s.station.keg.commit.isSome = true) :=
  ⟨⟨good, _, now noBatch, by decide +kernel, by decide +kernel, by decide +kernel, by decide +kernel,
  by decide +kernel, by decide +kernel, by decide +kernel, by decide +kernel, rfl⟩,
    ⟨good, _, now { held .leak with keg := { loaded := true, commit := some ⟨⟨none, false⟩, false⟩ } },
  by decide +kernel, by decide +kernel, by decide +kernel, by decide +kernel, by decide +kernel, by decide +kernel,
  by decide +kernel, by decide +kernel, rfl, by decide +kernel⟩⟩

/-- Premises of `Obligations.EditStepReplacesOneStep`. -/
theorem test_edit_step_replaces_one_step_premises :
    ∃ (i : Byte) (a : List Byte) (st : Machine.Step) (b : Batch) (s : State), s.station.admitsOwn ∧ s.station.calm ∧
    a.length = 10 ∧ readStep s.station.start.setup.pr (i :: a) 1 = some st ∧ st.legal = true ∧
    s.station.keg.batch = some b ∧ i.toNat < b.profile.length ∧ b.stepIdx ≤ i.toNat ∧
    (i.toNat = b.stepIdx → sameButSetting st b.step = true ∧ st.duration = b.step.duration) :=
  ⟨1, [0, 4, 0, 0, 0, 0, 0, 0, 0, 0], _, beer, now bay, by decide +kernel, by decide +kernel, by decide +kernel, rfl,
  by decide +kernel⟩

/-- Premises of `Obligations.AdvanceStepEndsTheStep`. -/
theorem test_advance_step_ends_the_step_premises :
    (∃ (b : Batch) (s : State), s.station.admitsOwn ∧ s.station.calm ∧ s.station.exc.state ≠ .lockout ∧
     s.station.keg.batch = some b ∧ b.programEnd = false ∧ b.stepIdx + 1 < b.profile.length) ∧
    (∃ (b : Batch) (s : State), s.station.admitsOwn ∧ s.station.calm ∧ s.station.exc.state ≠ .lockout ∧
     s.station.keg.batch = some b ∧ b.programEnd = false ∧ b.profile.length ≤ b.stepIdx + 1) :=
  ⟨⟨beer, now bay, by decide +kernel⟩,
    ⟨{ beer with stepIdx := 1 }, now (withBatch { beer with stepIdx := 1 }), by decide +kernel⟩⟩

/-- Premises of `Obligations.RunAndPauseWriteTheRunState`. -/
theorem test_run_and_pause_write_the_run_state_premises :
    (∃ (b : Batch) (k : Bool → Keg) (s : State), s.station.admitsOwn ∧ s.station.exc.state ≠ .lockout ∧
     s.station.keg.batch = some b ∧
     k = (fun v =>
       { s.station.keg with
         batch := some { b with run := v }
         persist := if s.station.keg.persist = .clean then .dirty else s.station.keg.persist
         changeMark := s.station.keg.changeMark || s.station.keg.commit.isSome
         timerMs :=
           if s.station.keg.persist = .clean ∧ s.station.keg.commit = none then some 900000
           else s.station.keg.timerMs }) ∧
     s.station.exc.h = false ∧ b.run = false) ∧
    (∃ (b : Batch) (k : Bool → Keg) (s : State), s.station.admitsOwn ∧ s.station.exc.state ≠ .lockout ∧
     s.station.keg.batch = some b ∧
     k = (fun v =>
       { s.station.keg with
         batch := some { b with run := v }
         persist := if s.station.keg.persist = .clean then .dirty else s.station.keg.persist
         changeMark := s.station.keg.changeMark || s.station.keg.commit.isSome
         timerMs :=
           if s.station.keg.persist = .clean ∧ s.station.keg.commit = none then some 900000
           else s.station.keg.timerMs }) ∧
     s.station.exc.h = false ∧ b.run = true) ∧
    (∃ (b : Batch) (k : Bool → Keg) (s : State), s.station.admitsOwn ∧ s.station.exc.state ≠ .lockout ∧
     s.station.keg.batch = some b ∧
     k = (fun v =>
       { s.station.keg with
         batch := some { b with run := v }
         persist := if s.station.keg.persist = .clean then .dirty else s.station.keg.persist
         changeMark := s.station.keg.changeMark || s.station.keg.commit.isSome
         timerMs :=
           if s.station.keg.persist = .clean ∧ s.station.keg.commit = none then some 900000
           else s.station.keg.timerMs }) ∧
     s.station.exc.state = .normal ∧ b.run = true) ∧
    (∃ (b : Batch) (k : Bool → Keg) (s : State), s.station.admitsOwn ∧ s.station.exc.state ≠ .lockout ∧
     s.station.keg.batch = some b ∧
     k = (fun v =>
       { s.station.keg with
         batch := some { b with run := v }
         persist := if s.station.keg.persist = .clean then .dirty else s.station.keg.persist
         changeMark := s.station.keg.changeMark || s.station.keg.commit.isSome
         timerMs :=
           if s.station.keg.persist = .clean ∧ s.station.keg.commit = none then some 900000
           else s.station.keg.timerMs }) ∧
     s.station.exc.state = .normal ∧ b.run = false) ∧
    (∃ (b : Batch) (k : Bool → Keg) (s : State), s.station.admitsOwn ∧ s.station.exc.state ≠ .lockout ∧
     s.station.keg.batch = some b ∧
     k = (fun v =>
       { s.station.keg with
         batch := some { b with run := v }
         persist := if s.station.keg.persist = .clean then .dirty else s.station.keg.persist
         changeMark := s.station.keg.changeMark || s.station.keg.commit.isSome
         timerMs :=
           if s.station.keg.persist = .clean ∧ s.station.keg.commit = none then some 900000
           else s.station.keg.timerMs }) ∧
     s.station.exc.state = .safeHold) :=
  ⟨⟨{ beer with run := false }, _, now (withBatch { beer with run := false }), by decide +kernel, by decide +kernel,
  by decide +kernel, rfl, by decide +kernel⟩,
    ⟨beer, _, now bay, by decide +kernel, by decide +kernel, by decide +kernel, rfl, by decide +kernel⟩,
    ⟨beer, _, now bay, by decide +kernel, by decide +kernel, by decide +kernel, rfl, by decide +kernel⟩,
    ⟨{ beer with run := false }, _, now (withBatch { beer with run := false }), by decide +kernel, by decide +kernel,
  by decide +kernel, rfl, by decide +kernel⟩,
    ⟨beer, _, now (held .leak), by decide +kernel, by decide +kernel, by decide +kernel, rfl, by decide +kernel⟩⟩

/-- Premises of `Obligations.EndBatchClosesTheBatch`. -/
theorem test_end_batch_closes_the_batch_premises :
    (∃ (b : Batch) (s : State), s.station.admitsOwn ∧ s.station.calm ∧ s.station.health.test = none ∧
     s.station.keg.batch = some b ∧ s.station.pour.active = none ∧ s.station.pour.queue = []) ∧
    (∃ (b : Batch) (s : State), s.station.admitsOwn ∧ s.station.calm ∧ s.station.health.test = none ∧
     s.station.keg.batch = some b ∧ s.station.pour.active = none ∧ s.station.pour.queue.length = 2) :=
  ⟨⟨beer, now bay, by decide +kernel⟩,
    ⟨beer, now { bay with pour.queue := [glass, onHandle] }, by decide +kernel⟩⟩

/-- Premises of `Obligations.CommitsStartAndCompleteByTheTable`. -/
theorem test_commits_start_and_complete_by_the_table_premises :
    (∃ s : State, s.station.admitsOwn ∧ s.station.keg.commit = none ∧ s.station.keg.persist = .clean) ∧
    (∃ s : State, s.station.admitsOwn ∧ s.station.keg.commit.isSome = true) ∧
    (∃ s : State, s.station.admitsOwn ∧ s.station.keg.commit = none ∧ s.station.keg.persist ≠ .clean) ∧
    (∃ (c : Commit) (s : State), s.station.powered = true ∧ s.station.keg.commit = some c ∧
     s.station.req.restart = none ∧ s.station.keg.batch.isSome = true ∧ c.startedSince = true) ∧
    (∃ (c : Commit) (s : State), s.station.powered = true ∧ s.station.keg.commit = some c ∧
     s.station.req.restart = none ∧ s.station.keg.batch.isSome = true ∧ c.startedSince = false ∧
     s.station.keg.changeMark = false) ∧
    (∃ (c : Commit) (s : State), s.station.powered = true ∧ s.station.keg.commit = some c ∧
     s.station.req.restart = none ∧ s.station.keg.batch.isSome = true ∧ c.startedSince = false ∧
     s.station.keg.changeMark = true ∧ s.station.keg.pendingMark = false) ∧
    (∃ (c : Commit) (s : State), s.station.powered = true ∧ s.station.keg.commit = some c ∧
     s.station.req.restart = none ∧ s.station.keg.batch.isSome = true ∧ c.startedSince = false ∧
     s.station.keg.changeMark = true ∧ s.station.keg.pendingMark = true) ∧
    (∃ (c : Commit) (s : State), s.station.powered = true ∧ s.station.keg.commit = some c ∧
     s.station.req.restart = none ∧ s.station.keg.batch = none) :=
  ⟨⟨now { bay with keg.persist := .clean }, by decide +kernel⟩,
    ⟨now (committing true false false), by decide +kernel⟩,
    ⟨now locked, by decide +kernel⟩,
    ⟨⟨⟨some beer, false⟩, true⟩, now (committing true true true), by decide +kernel⟩,
    ⟨⟨⟨some beer, false⟩, false⟩, now (committing false false false), by decide +kernel⟩,
    ⟨⟨⟨some beer, false⟩, false⟩, now (committing false true false), by decide +kernel⟩,
    ⟨⟨⟨some beer, false⟩, false⟩, now (committing false true true), by decide +kernel⟩,
    ⟨⟨⟨some beer, false⟩, false⟩, now { committing false true true with keg.batch := none }, by decide +kernel⟩⟩

/-- Premises of `Obligations.PourJoinsTheQueueAndStarts`. -/
theorem test_pour_joins_the_queue_and_starts_premises :
    (∃ (tag form v1 v2 limit : Byte) (s : State) (o : Order), s.station.admitsOwn ∧ s.station.exc.state ≠ .lockout ∧
     s.station.keg.batch.isSome = true ∧ s.station.sense.keg = true ∧ s.station.kegEmpty = false ∧
     s.station.keg.tapLock = false ∧ tag ≠ 0 ∧ tag.toNat ≤ 15 ∧ (∀ x ∈ s.station.pour.queue, x.tag ≠ tag.toNat) ∧
     s.station.pour.queue.length < 4 ∧ (form.getLsbD 7 = false → s.station.recPhase = .serve) ∧
     o = { tag := tag.toNat
           kind := if form.getLsbD 7 then .sample else .glass
           volume :=
             if form.getLsbD 7 then clampNat 10 150 (v1.toNat * 256 + v2.toNat)
             else clampNat 50 1000 (v1.toNat * 256 + v2.toNat)
           limit := if form.getLsbD 5 then some (clampNat 5 120 limit.toNat) else none
           start := if form.getLsbD 6 then .onHandle else .immediate } ∧
     s.station.mayStart = false) ∧
    (∃ (tag form v1 v2 limit : Byte) (s : State) (o : Order), s.station.admitsOwn ∧ s.station.exc.state ≠ .lockout ∧
     s.station.keg.batch.isSome = true ∧ s.station.sense.keg = true ∧ s.station.kegEmpty = false ∧
     s.station.keg.tapLock = false ∧ tag ≠ 0 ∧ tag.toNat ≤ 15 ∧ (∀ x ∈ s.station.pour.queue, x.tag ≠ tag.toNat) ∧
     s.station.pour.queue.length < 4 ∧ (form.getLsbD 7 = false → s.station.recPhase = .serve) ∧
     o = { tag := tag.toNat
           kind := if form.getLsbD 7 then .sample else .glass
           volume :=
             if form.getLsbD 7 then clampNat 10 150 (v1.toNat * 256 + v2.toNat)
             else clampNat 50 1000 (v1.toNat * 256 + v2.toNat)
           limit := if form.getLsbD 5 then some (clampNat 5 120 limit.toNat) else none
           start := if form.getLsbD 6 then .onHandle else .immediate } ∧
     s.station.pour.queue = [] ∧ o.start = .onHandle) ∧
    (∃ (tag form v1 v2 limit : Byte) (s : State), s.station.admitsOwn ∧ s.station.keg.batch.isSome = true ∧ tag ≠ 0 ∧
     tag.toNat ≤ 15 ∧ s.station.pour.queue = [] ∧ form.getLsbD 6 = false ∧
     (form.getLsbD 7 = false → s.station.recPhase = .serve) ∧ s.station.mayStart = true ∧
     s.station.sense.p = s.station.start.setup.fp) ∧
    (∃ (tag form v1 v2 limit : Byte) (s : State), s.station.admitsOwn ∧ s.station.keg.batch.isSome = true ∧ tag ≠ 0 ∧
     tag.toNat ≤ 15 ∧ s.station.pour.queue = [] ∧ form.getLsbD 6 = false ∧
     (form.getLsbD 7 = false → s.station.recPhase = .serve) ∧ s.station.mayStart = true ∧
     s.station.sense.p + 1 = s.station.start.setup.fp) :=
  ⟨⟨15, 0x80, 0, 200, 0, now pouring, ⟨15, .sample, 150, none, .immediate⟩, by decide +kernel⟩,
    ⟨15, 0x40, 0, 49, 0, now bay, ⟨15, .glass, 50, none, .onHandle⟩, by decide +kernel⟩,
    ⟨1, 0, 0, 0, 0, now { bay with sense.p := 30 }, by decide +kernel⟩,
    ⟨1, 0, 0, 0, 0, now { bay with sense.p := 29 }, by decide +kernel⟩⟩

/-- Premises of `Obligations.CancelPourEndsAQueuedOrder`. -/
theorem test_cancel_pour_ends_a_queued_order_premises :
    ∃ (tag : Byte) (o : Order) (s : State), s.station.admitsOwn ∧
    (s.station.pour.queue.find? fun x => x.tag == tag.toNat) = some o ∧
    (∀ a, s.station.pour.active = some a → a.tag ≠ tag.toNat) :=
  ⟨2, onHandle, now pouring, by decide +kernel, by decide +kernel, (fun _ h => by cases h; decide +kernel)⟩

/-- Premises of `Obligations.LockAndUnlockWriteTheTapLock`. -/
theorem test_lock_and_unlock_write_the_tap_lock_premises :
    (∃ s : State, s.station.admitsOwn ∧ s.station.pour.freeze = false ∧ s.station.keg.tapLock = false) ∧
    (∃ s : State, s.station.admitsOwn ∧ s.station.pour.freeze = false ∧ s.station.keg.tapLock = true) ∧
    (∃ s : State, s.station.admitsOwn ∧ s.station.pour.freeze = false ∧ s.station.keg.tapLock = true) ∧
    (∃ s : State, s.station.admitsOwn ∧ s.station.pour.freeze = false ∧ s.station.keg.tapLock = false) :=
  ⟨⟨now pouring, by decide +kernel⟩,
    ⟨now { pouring with keg.tapLock := true }, by decide +kernel⟩,
    ⟨now { locked with keg.tapLock := true }, by decide +kernel⟩,
    ⟨now locked, by decide +kernel⟩⟩

/-- Premises of `Obligations.FreezeHoldsTheTapLock`. -/
theorem test_freeze_holds_the_tap_lock_premises :
    (∃ s : State, s.station.admitsOwn) ∧
    (∃ s : State, s.station.admitsOwn ∧ s.station.pour.freeze = true) ∧
    (∃ (c : Instr) (s t : State), s.station.pour.freeze = true ∧ exec c s = .next t) ∧
    (∃ (c : Instr) (s t : State), s.station.pour.freeze = true ∧ exec c s = .next t ∧ s.station.keg.tapLock = true) ∧
    (∃ (a : List Byte) (s : State), s.station.admits ∧ a ≠ []) ∧
    (∃ s : State, s.station.admits ∧ s.station.start.role = .follower) ∧
    (∃ (p : Pins) (s : State), s.station.powered = true) ∧
    (∃ (p : Pins) (s : State), s.station.powered = true ∧ s.station.req.restart = some .done ∧
     s.station.nv.setupWrite = none ∧ s.station.link.tx = none) ∧
    (∃ (x y : Option (BitVec 5)) (s : State), s.station.start.phase = .checking ∧ s.station.start.role ≠ .follower ∧
     imageValid 146 s.station.nv.image = true) :=
  ⟨⟨now locked, by decide +kernel⟩,
    ⟨now { locked with pour.freeze := true }, by decide +kernel⟩,
    ⟨.commit [], now { bay with pour.freeze := true }, _, rfl, rfl⟩,
    ⟨.lockTap [], now { bay with pour.freeze := true, keg.tapLock := true }, _, rfl, rfl, rfl⟩,
    ⟨[0], now bay, by decide +kernel⟩,
    ⟨now follower, by decide +kernel⟩,
    ⟨pins 0 0, now bay, by decide +kernel⟩,
    ⟨pins 0 0, now restarting, by decide +kernel⟩,
    ⟨none, none, now (checking .single image), by decide +kernel⟩⟩

/-- Premises of `Obligations.StationReturnsToNormal`. -/
theorem test_station_returns_to_normal_premises :
    (∃ (k : FaultKind) (s : State), s.station.admitsOwn ∧ s.station.exc.state = .safeHold ∧
     s.station.exc.kind = some k ∧ s.station.exc.conflict = false ∧ s.station.stands k = false ∧
     (k = .kegLost → s.station.sense.keg = true)) ∧
    (∃ (n : Nat) (s : State), s.station.powered = true ∧ s.station.exc.state = .safeHold ∧
     s.station.exc.clearMs = some n) ∧
    (∃ s : State, s.station.admitsOwn ∧ s.station.exc.state = .lockout ∧ s.station.start.phase = .running ∧
     s.station.exc.conflict = false ∧ (s.station.keg.batch.isSome = true → s.station.sense.keg = true) ∧
     s.station.exc.overtemp = false ∧ s.station.exc.undertemp = false ∧ s.station.exc.overpressure = false ∧
     s.station.exc.probeLost = false ∧ s.station.exc.linkMute = false) ∧
    (∃ s : State, ∃ k l, s.station.admitsOwn ∧ s.station.exc.state = .lockout ∧ s.station.start.phase = .running ∧
     s.station.exc.conflict = false ∧ (s.station.keg.batch.isSome = true → s.station.sense.keg = true) ∧
     [FaultKind.overtemp, .undertemp, .overpressure, .probeLost,
       .linkMute].filter (fun k => s.station.stands k) = k :: l ∧
     k = .overtemp ∧ l = []) ∧
    (∃ s : State, ∃ k l, s.station.admitsOwn ∧ s.station.exc.state = .lockout ∧ s.station.start.phase = .running ∧
     s.station.exc.conflict = false ∧ (s.station.keg.batch.isSome = true → s.station.sense.keg = true) ∧
     [FaultKind.overtemp, .undertemp, .overpressure, .probeLost,
       .linkMute].filter (fun k => s.station.stands k) = k :: l ∧
     k = .undertemp ∧ l = [.linkMute]) :=
  ⟨⟨.kegLost, now (held .kegLost), by decide +kernel⟩,
    ⟨300000, now (held .overtemp), by decide +kernel⟩,
    ⟨now locked, by decide +kernel⟩,
    ⟨now { locked with exc.overtemp := true }, .overtemp, [], by decide +kernel⟩,
    ⟨now { locked with exc.undertemp := true, exc.linkMute := true }, .undertemp, [.linkMute], by decide +kernel⟩⟩

/-- Premises of `Obligations.LeakTestsStartAndEnd`. -/
theorem test_leak_tests_start_and_end_premises :
    (∃ (m : Byte) (b : Batch) (x : Int) (s : State), s.station.admitsOwn ∧ s.station.exc.state = .normal ∧
     s.station.exc.h = false ∧ s.station.health.test = none ∧ s.station.sense.keg = true ∧
     s.station.keg.batch = some b ∧ s.station.pour.active = none ∧ s.station.pour.drain = none ∧
     50 ≤ s.station.sense.p ∧ s.station.tAvg = some x ∧ s.station.sense.beer.state = .ok) ∧
    (∃ (u : LeakTest) (n : Nat) (s : State), s.station.admitsOwn ∧ s.station.health.test = some u ∧
     n = (if s.station.health.newest = 8 then 1 else s.station.health.newest + 1)) ∧
    (∃ (u : LeakTest) (x d : Int) (r n : Nat) (s : State), s.station.powered = true ∧ s.station.health.test = some u ∧
     s.station.exc.state = .normal ∧ s.station.exc.h = false ∧ s.station.tAvg = some x ∧
     d = ((u.startAbs : Int) * (x + 2732)).tdiv (u.startT + 2732) - (s.station.sense.p + s.station.start.setup.pa : Nat) ∧
     r = (if d ≤ 0 then 0 else d.toNat * 60 / u.minutes) ∧
     n = (if s.station.health.newest = 8 then 1 else s.station.health.newest + 1) ∧ 6 < r) ∧
    (∃ (u : LeakTest) (x d : Int) (r n : Nat) (s : State), s.station.powered = true ∧ s.station.health.test = some u ∧
     s.station.exc.state = .normal ∧ s.station.exc.h = false ∧ s.station.tAvg = some x ∧
     d = ((u.startAbs : Int) * (x + 2732)).tdiv (u.startT + 2732) - (s.station.sense.p + s.station.start.setup.pa : Nat) ∧
     r = (if d ≤ 0 then 0 else d.toNat * 60 / u.minutes) ∧
     n = (if s.station.health.newest = 8 then 1 else s.station.health.newest + 1) ∧ r = 6) :=
  ⟨⟨5, beer, 60, now { bay with sense.p := 50 }, by decide +kernel⟩,
    ⟨test10, 1, now { bay with health.test := some test10, health.newest := 8 }, by decide +kernel⟩,
    ⟨test10, 60, 10, 60, 1, now { bay with health.test := some test10, health.newest := 8 }, by decide +kernel⟩,
    ⟨test10, 60, 1, 6, 1, now { bay with health.test := some test10, sense.p := 109 }, by decide +kernel⟩⟩

/-- Premises of `Obligations.RecordTimersAndSetupWrites`. -/
theorem test_record_timers_and_setup_writes_premises :
    (∃ (a : List Byte) (s : State), s.station.admits ∧ a.length = 17 ∧ s.station.nv.setupWrite = none) ∧
    (∃ s : State, ∃ n, s.station.powered = true ∧ s.station.keg.timerMs = some n ∧ s.station.keg.persist = .dirty ∧
     s.station.keg.commit = none ∧ s.station.keg.loaded = true ∧ s.station.start.role ≠ .follower ∧
     s.station.req.restart = none) ∧
    (∃ s : State, ∃ l, s.station.powered = true ∧ s.station.nv.setupWrite = some l) ∧
    (∃ s : State, ∃ b, s.station.powered = true ∧ s.station.keg.batch = some b ∧ s.station.exc.h = false) :=
  ⟨⟨List.replicate 17 0, now follower, by decide +kernel⟩,
    ⟨now bay, 5, by decide +kernel⟩,
    ⟨now { bay with nv.setupWrite := some [1] }, [1], by decide +kernel⟩,
    ⟨now bay, beer, by decide +kernel⟩⟩

/-- Premises of `Obligations.QueryAnswersAndChangesNothing`. -/
theorem test_query_answers_and_changes_nothing_premises :
    (∃ (x : Byte) (s : State), s.station.takes ∧ x.toNat ≤ 8 ∧ x = 8) ∧
    (∃ (x : Byte) (s : State), s.station.takes ∧ x.toNat ≤ 8 ∧ x = 0) ∧
    (∃ (x : Byte) (s : State), s.station.takes ∧ x.toNat ≤ 8 ∧ x = 3) ∧
    (∃ (x : Byte) (s : State), s.station.takes ∧ x.toNat ≤ 8 ∧ x = 4) ∧
    (∃ (x : Byte) (s : State), s.station.takes ∧ x.toNat ≤ 8 ∧ x = 6) ∧
    (∃ (x : Byte) (s : State), s.station.takes ∧ 9 ≤ x.toNat) :=
  ⟨⟨8, now { follower with req.restart := some .final }, by decide +kernel⟩,
    ⟨0, now bay, by decide +kernel⟩,
    ⟨3, now bay, by decide +kernel⟩,
    ⟨4, now bay, by decide +kernel⟩,
    ⟨6, now bay, by decide +kernel⟩,
    ⟨9, now bay, by decide +kernel⟩⟩

/-- Premises of `Obligations.ClearEventsClearsTheNamedFlags`. -/
theorem test_clear_events_clears_the_named_flags_premises :
    (∃ (x y z : Byte) (f : FlagSet) (s : State), s.station.admits ∧
     f = BitVec.ofNat 20 (x.toNat + 256 * y.toNat + 65536 * z.toNat)) ∧
    (∃ (a : List Byte) (s : State), s.station.takes ∧ a.length ≠ 3) ∧
    (∃ (a : List Byte) (s : State), s.station.takes ∧ a.length = 3 ∧ s.station.req.restart.isSome = true) :=
  ⟨⟨3, 1, 255, 0xF0103, now follower, by decide +kernel⟩,
    ⟨[0], now restarting, by decide +kernel⟩,
    ⟨[0, 0, 0], now restarting, by decide +kernel⟩⟩

/-- Premises of `Obligations.ReportMaskIsReplacedWhole`. -/
theorem test_report_mask_is_replaced_whole_premises :
    (∃ (x y z : Byte) (s : State), s.station.admits) ∧
    (∃ (a : List Byte) (s : State), s.station.takes ∧ a.length ≠ 3) ∧
    (∃ (a : List Byte) (s : State), s.station.takes ∧ a.length = 3 ∧ s.station.req.restart.isSome = true) ∧
    (∃ (f : Flag) (s : Station), s.flag f = true) ∧
    (∃ (f : Flag) (s : Station), s.flag f = false ∧ s.req.mask &&& f.bit = 0) ∧
    (∃ (f : Flag) (s : Station), s.flag f = false ∧ s.req.mask &&& f.bit = f.bit ∧ s.link.tx = some .event) ∧
    (∃ (p : Pins) (s : State), s.station.powered = true) ∧
    (∃ (p : Pins) (s : State), s.station.powered = true ∧ s.station.req.restart = some .done ∧
     s.station.nv.setupWrite = none ∧ s.station.link.tx = none) :=
  ⟨⟨3, 1, 255, now follower, by decide +kernel⟩,
    ⟨[0], now restarting, by decide +kernel⟩,
    ⟨[0, 0, 0], now restarting, by decide +kernel⟩,
    ⟨.kegEmpty, { bay with req.flags := 0xFFFFF }, by decide +kernel⟩,
    ⟨.kegEmpty, { bay with req.mask := 0 }, by decide +kernel⟩,
    ⟨.kegEmpty, sending .event 0, by decide +kernel⟩,
    ⟨pins 0 0, now bay, by decide +kernel⟩,
    ⟨pins 0 0, now restarting, by decide +kernel⟩⟩

/-- Premises of `Obligations.RestartsWaitForTheImageAndKeepTheLogs`. -/
theorem test_restarts_wait_for_the_image_and_keep_the_logs_premises :
    (∃ s : State, s.station.admits ∧ s.station.pour.active = none ∧ s.station.pour.drain = none ∧
     s.station.pour.queue = [] ∧ s.station.health.test = none ∧
     (s.station.start.role = .follower ∨ (s.station.keg.commit = none ∧ s.station.keg.persist = .clean))) ∧
    (∃ s : State, s.station.admits ∧ s.station.pour.active = none ∧ s.station.pour.drain = none ∧
     s.station.pour.queue = [] ∧ s.station.health.test = none ∧
     (s.station.start.role = .follower ∨ (s.station.keg.commit = none ∧ s.station.keg.persist = .clean))) ∧
    (∃ s : State, s.station.admits ∧ s.station.pour.active = none ∧ s.station.pour.drain = none ∧
     s.station.pour.queue = [] ∧ s.station.health.test = none ∧ s.station.start.role ≠ .follower ∧
     s.station.keg.commit.isSome = true) ∧
    (∃ s : State, s.station.admits ∧ s.station.pour.active = none ∧ s.station.pour.drain = none ∧
     s.station.pour.queue = [] ∧ s.station.health.test = none ∧ s.station.start.role ≠ .follower ∧
     s.station.keg.commit = none ∧ s.station.keg.persist ≠ .clean) ∧
    (∃ s : State, s.station.admits ∧ s.station.pour.active = none ∧ s.station.pour.drain = none ∧
     s.station.pour.queue.length = 2 ∧ s.station.health.test.isSome = true) ∧
    (∃ (c : Commit) (s : State), s.station.powered = true ∧ s.station.keg.commit = some c ∧
     s.station.req.restart = some .waitFirst ∧ s.station.keg.batch.isSome = true ∧ c.startedSince = false ∧
     s.station.keg.changeMark = false) ∧
    (∃ (c : Commit) (s : State), s.station.powered = true ∧ s.station.keg.commit = some c ∧
     s.station.req.restart = some .waitFirst ∧ s.station.keg.changeMark = true) ∧
    (∃ (c : Commit) (s : State), s.station.powered = true ∧ s.station.keg.commit = some c ∧
     s.station.req.restart = some .final ∧ s.station.keg.changeMark = false) ∧
    (∃ (p : Pins) (s : State), s.station.powered = true ∧ s.station.req.restart = some .done ∧
     s.station.nv.setupWrite = none ∧ s.station.link.tx = none ∧ p.pair = 0) :=
  ⟨⟨now follower, by decide +kernel⟩,
    ⟨now { bay with keg.persist := .clean }, by decide +kernel⟩,
    ⟨now (committing false false false), by decide +kernel⟩,
    ⟨now locked, by decide +kernel⟩,
    ⟨now { bay with pour.queue := [glass, onHandle], health.test := some test10 }, by decide +kernel⟩,
    ⟨⟨⟨some beer, false⟩, false⟩, now { committing false false true with req.restart := some .waitFirst },
  by decide +kernel⟩,
    ⟨⟨⟨some beer, false⟩, false⟩, now { committing false true true with req.restart := some .waitFirst },
  by decide +kernel⟩,
    ⟨⟨⟨some beer, false⟩, false⟩, now { committing false false false with req.restart := some .final },
  by decide +kernel⟩,
    ⟨pins 0 2, now restarting, by decide +kernel⟩⟩

/-- Premises of `Obligations.PoursCompleteInOneWrite`. -/
theorem test_pours_complete_in_one_write_premises :
    (∃ (a : ActivePour) (s : State), ∃ c : Instr, s.station.powered = true ∧ s.station.pour.active = some a ∧
     s.station.pour.tap = false ∧ ((c = .primingExpiry ∧ a.stage = .priming) ∨ (c = .pauseExpiry ∧
       a.stage = .paused))) ∧
    (∃ (a : ActivePour) (s : State), ∃ c : Instr, s.station.powered = true ∧ s.station.pour.active = some a ∧
     s.station.pour.tap = false ∧ ((c = .primingExpiry ∧ a.stage = .priming) ∨ (c = .pauseExpiry ∧
       a.stage = .paused))) ∧
    (∃ (d : DrainPour) (s : State), s.station.powered = true ∧ s.station.pour.drain = some d ∧
     (d.outcome ≠ .foam ∨ s.station.pour.foamRun < 2 ∨ s.station.keg.batch = none ∨ ∃ b,
       s.station.keg.batch = some b ∧ (b.kegEmpty = true ∨ b.fill ≤ 10 * (b.remaining - d.delivered)))) ∧
    (∃ (d : DrainPour) (s : State), s.station.powered = true ∧ s.station.pour.drain = some d ∧
     (d.outcome ≠ .foam ∨ s.station.pour.foamRun < 2 ∨ s.station.keg.batch = none ∨ ∃ b,
       s.station.keg.batch = some b ∧ (b.kegEmpty = true ∨ b.fill ≤ 10 * (b.remaining - d.delivered))) ∧
     d.outcome = .foam ∧ s.station.pour.foamRun = 1) ∧
    (∃ (d : DrainPour) (s : State), s.station.powered = true ∧ s.station.pour.drain = some d ∧
     (d.outcome ≠ .foam ∨ s.station.pour.foamRun < 2 ∨ s.station.keg.batch = none ∨ ∃ b,
       s.station.keg.batch = some b ∧ (b.kegEmpty = true ∨ b.fill ≤ 10 * (b.remaining - d.delivered))) ∧
     d.outcome = .foam ∧ s.station.pour.foamRun = 2) ∧
    (∃ (d : DrainPour) (b : Batch) (s : State), s.station.powered = true ∧ s.station.pour.drain = some d ∧
     s.station.pour.active = none ∧ d.everActive = true ∧ d.outcome = .foam ∧ s.station.pour.foamRun = 2 ∧
     s.station.keg.batch = some b ∧ b.kegEmpty = false ∧ 10 * (b.remaining - d.delivered) < b.fill) :=
  ⟨⟨{ active with stage := .priming }, now (waiting .priming), .primingExpiry, by decide +kernel⟩,
    ⟨{ active with stage := .paused }, now (waiting .paused), .pauseExpiry, by decide +kernel⟩,
    ⟨drained .done 270, now { bay with pour.drain := some (drained .done 270) }, by decide +kernel, by decide +kernel,
  .inl (by decide)⟩,
    ⟨drained .foam 270, now { bay with pour.drain := some (drained .foam 270), pour.foamRun := 1 }, by decide +kernel,
  by decide +kernel, .inr (.inl (by decide)), by decide +kernel⟩,
    ⟨drained .foam 7100, now { bay with pour.drain := some (drained .foam 7100), pour.foamRun := 2 }, by decide +kernel,
  by decide +kernel, .inr (.inr (.inr ⟨beer, rfl, by decide⟩)), by decide +kernel⟩,
    ⟨drained .foam 7101, beer, now { bay with pour.drain := some (drained .foam 7101), pour.foamRun := 2 },
  by decide +kernel⟩⟩

/-- Premises of `Obligations.HandleStartsAPour`. -/
theorem test_handle_starts_a_pour_premises :
    (∃ (n : Nat) (s : State), s.station.powered = true ∧ n < 16) ∧
    (∃ (n : Nat) (s : State), ∃ o l, s.station.powered = true ∧ 16 ≤ n ∧ s.station.sense.handle = false ∧
     s.station.start.role ≠ .follower ∧ s.station.mayStart = true ∧ s.station.pour.queue = o :: l ∧
     o.start = .onHandle) ∧
    (∃ (n : Nat) (s : State), s.station.powered = true ∧ 16 ≤ n ∧ s.station.sense.handle = false ∧
     s.station.start.role ≠ .follower ∧ s.station.mayStart = true ∧ s.station.pour.queue = [] ∧
     s.station.recPhase = .serve) ∧
    (∃ (n : Nat) (s : State), s.station.powered = true ∧ 16 ≤ n ∧ s.station.sense.handle = false ∧
     (s.station.start.role = .follower ∨ (s.station.keg.tapLock = true ∧ s.station.orderInProgress = false)) ∧
     s.station.start.role = .follower) ∧
    (∃ (n : Nat) (s : State), s.station.powered = true ∧ 16 ≤ n ∧ s.station.sense.handle = false ∧
     (s.station.start.role = .follower ∨ (s.station.keg.tapLock = true ∧ s.station.orderInProgress = false)) ∧
     s.station.keg.tapLock = true) ∧
    (∃ (n : Nat) (s : State), s.station.powered = true ∧ 16 ≤ n ∧ s.station.sense.handle = true ∧
     s.station.pour.active = none) :=
  ⟨⟨15, now bay, by decide +kernel⟩,
    ⟨16, now { bay with pour.queue := [onHandle] }, onHandle, [], by decide +kernel⟩,
    ⟨16, now bay, by decide +kernel⟩,
    ⟨16, now follower, by decide +kernel⟩,
    ⟨16, now { bay with keg.tapLock := true }, by decide +kernel⟩,
    ⟨16, now { bay with sense.handle := true }, by decide +kernel⟩⟩

/-- Premises of `Obligations.PulsesAreCountedByTheirWidth`. -/
theorem test_pulses_are_counted_by_their_width_premises :
    (∃ (w : Nat) (early : Bool) (s : State), s.station.powered = true ∧ 200 ≤ w ∧ early = false ∧
     s.station.sense.pulses = 4294967295 ∧ s.station.pour.active = none ∧ s.station.pour.drain = none) ∧
    (∃ (w : Nat) (early : Bool) (s : State), s.station.powered = true ∧ w = 199) ∧
    (∃ (w : Nat) (early : Bool) (s : State), s.station.powered = true ∧ early = true) ∧
    (∃ (p : Pins) (s : State), s.station.powered = true) ∧
    (∃ (p : Pins) (s : State), s.station.powered = true ∧ s.station.req.restart = some .done ∧
     s.station.nv.setupWrite = none ∧ s.station.link.tx = none) :=
  ⟨⟨200, false, now { bay with sense.pulses := 4294967295 }, by decide +kernel⟩,
    ⟨199, false, now bay, by decide +kernel⟩,
    ⟨200, true, now bay, by decide +kernel⟩,
    ⟨pins 0 0, now bay, by decide +kernel⟩,
    ⟨pins 0 0, now restarting, by decide +kernel⟩⟩

/-- Premises of `Obligations.FlowIsMeteredAndRated`. -/
theorem test_flow_is_metered_and_rated_premises :
    (∃ (w v lvl : Nat) (a : ActivePour) (s : State), s.station.powered = true ∧ 200 ≤ w ∧
     s.station.pour.active = some a ∧ a.stage = .active ∧ a.closeLevel = some lvl ∧ s.station.pour.tap = true ∧
     s.station.pour.drain = none ∧
     v = min 65535 ((s.station.sense.pulses + 1 - a.startCount).toNat * 1000 / s.station.start.setup.k) ∧ v + 1 = lvl) ∧
    (∃ (w v lvl : Nat) (a : ActivePour) (s : State), s.station.powered = true ∧ 200 ≤ w ∧
     s.station.pour.active = some a ∧ a.stage = .active ∧ a.closeLevel = some lvl ∧ s.station.pour.tap = true ∧
     s.station.pour.drain = none ∧
     v = min 65535 ((s.station.sense.pulses + 1 - a.startCount).toNat * 1000 / s.station.start.setup.k) ∧ v = lvl) ∧
    (∃ (w v : Nat) (s : State), ∃ a, s.station.powered = true ∧ 200 ≤ w ∧ s.station.pour.active = some a ∧
     s.station.pour.drain = none ∧ (a.stage ≠ .active ∨ a.closeLevel = none) ∧
     v = min 65535 ((s.station.sense.pulses + 1 - a.startCount).toNat * 1000 / s.station.start.setup.k) ∧
     a.stage = .paused) ∧
    (∃ (w v : Nat) (s : State), ∃ a, s.station.powered = true ∧ 200 ≤ w ∧ s.station.pour.active = some a ∧
     s.station.pour.drain = none ∧ (a.stage ≠ .active ∨ a.closeLevel = none) ∧
     v = min 65535 ((s.station.sense.pulses + 1 - a.startCount).toNat * 1000 / s.station.start.setup.k) ∧
     a.stage = .priming) ∧
    (∃ (w v : Nat) (s : State), ∃ a, s.station.powered = true ∧ 200 ≤ w ∧ s.station.pour.active = some a ∧
     s.station.pour.drain = none ∧ (a.stage ≠ .active ∨ a.closeLevel = none) ∧
     v = min 65535 ((s.station.sense.pulses + 1 - a.startCount).toNat * 1000 / s.station.start.setup.k) ∧
     a.stage = .active ∧ a.tag = 0) ∧
    (∃ (w v : Nat) (s : State), ∃ d, s.station.powered = true ∧ 200 ≤ w ∧ s.station.pour.drain = some d ∧
     s.station.pour.active = none ∧
     v = min 65535 ((s.station.sense.pulses + 1 - d.startCount).toNat * 1000 / s.station.start.setup.k)) ∧
    (∃ (bins : List Nat) (s : State), s.station.powered = true ∧
     bins = s.station.sense.bins.drop 1 ++ [s.station.sense.bin] ∧ s.station.pour.active = none) ∧
    (∃ (bins : List Nat) (s : State), s.station.powered = true ∧
     bins = s.station.sense.bins.drop 1 ++ [s.station.sense.bin] ∧ s.station.pour.active = some active ∧
     active.foamMs = some 2000 ∧ 2 * s.station.start.setup.nominal < bins.sum * 1000 / s.station.start.setup.k) ∧
    (∃ (bins : List Nat) (s : State), s.station.powered = true ∧
     bins = s.station.sense.bins.drop 1 ++ [s.station.sense.bin] ∧ s.station.pour.active = some active ∧
     bins.sum * 1000 / s.station.start.setup.k = 2 * s.station.start.setup.nominal) :=
  ⟨⟨200, 259, 260, active, now { pouring with sense.pulses := 1208 }, by decide +kernel⟩,
    ⟨200, 260, 260, active, now { pouring with sense.pulses := 1209 }, by decide +kernel⟩,
    ⟨200, 260, now { waiting .paused with sense.pulses := 1209 }, { active with stage := .paused }, by decide +kernel⟩,
    ⟨200, 260, now { waiting .priming with sense.pulses := 1209 }, { active with stage := .priming },
      by decide +kernel⟩,
    ⟨200, 260,
  now { pouring with pour.active := some { active with tag := 0, closeLevel := none }, sense.pulses := 1209 },
  { active with tag := 0, closeLevel := none }, by decide +kernel⟩,
    ⟨200, 260, now { bay with pour.drain := some { drained .done 259 with startCount := 40 }, sense.pulses := 1209 },
  { drained .done 259 with startCount := 40 }, by decide +kernel⟩,
    ⟨[0, 0, 0, 0, 0, 0, 0, 0, 0, 4], now { bay with sense.bin := 4 }, by decide +kernel⟩,
    ⟨[0, 0, 0, 0, 0, 0, 0, 0, 0, 365], now { pouring with sense.bin := 365 }, by decide +kernel⟩,
    ⟨[0, 0, 0, 0, 0, 0, 0, 0, 0, 364], now { pouring with sense.bin := 364 }, by decide +kernel⟩⟩

/-- Premises of `Obligations.PressureConversionsAreCheckedAndPause`. -/
theorem test_pressure_conversions_are_checked_and_pause_premises :
    (∃ (v : Int) (p : Nat) (s : State), s.station.powered = true) ∧
    (∃ (v : Int) (p : Nat) (s : State), s.station.powered = true ∧ s.station.sense.sampling = true ∧
     p = (max 0 (min 400 v)).toNat ∧ p = s.station.start.setup.pr + 31 ∧ s.station.exc.overpressure = false ∧
     s.station.exc.state = .normal ∧ s.station.exc.h = false) ∧
    (∃ (v : Int) (p : Nat) (s : State), s.station.powered = true ∧ s.station.sense.sampling = true ∧
     p = (max 0 (min 400 v)).toNat ∧ p = s.station.start.setup.pr) ∧
    (∃ (v : Int) (p : Nat) (s : State), s.station.powered = true ∧ s.station.sense.sampling = true ∧
     p = (max 0 (min 400 v)).toNat ∧ s.station.start.role = .follower) ∧
    (∃ (v : Int) (p : Nat) (a : ActivePour) (s : State), s.station.powered = true ∧ s.station.sense.sampling = true ∧
     s.station.exc.overpressure = false ∧ s.station.pour.active = some a ∧ p = (max 0 (min 400 v)).toNat ∧
     p ≤ s.station.start.setup.pr ∧ a.stage = .active ∧ p < s.station.start.setup.fp) ∧
    (∃ (v : Int) (p : Nat) (a : ActivePour) (s : State), s.station.powered = true ∧ s.station.sense.sampling = true ∧
     s.station.exc.overpressure = false ∧ s.station.pour.active = some a ∧ p = (max 0 (min 400 v)).toNat ∧
     p ≤ s.station.start.setup.pr ∧ a.stage = .paused ∧ s.station.start.setup.fp + s.station.start.setup.band ≤ p ∧
     (∀ l, a.closeLevel = some l → a.delivered < l)) :=
  ⟨⟨0, 0, now bay, by decide +kernel⟩,
    ⟨271, 271, now bay, by decide +kernel⟩,
    ⟨240, 240, now (held .overpressure), by decide +kernel⟩,
    ⟨-1, 0, now follower, by decide +kernel⟩,
    ⟨29, 29, active, now pouring, by decide +kernel⟩,
    ⟨35, 35, { active with stage := .paused }, now (waiting .paused), by decide +kernel, by decide +kernel,
  by decide +kernel, by decide +kernel, by decide +kernel, by decide +kernel, by decide +kernel, by decide +kernel,
  (fun _ h => by cases h; decide +kernel)⟩⟩

/-- Premises of `Obligations.ProbesFollowTheirStateTable`. -/
theorem test_probes_follow_their_state_table_premises :
    (∃ (conv : Option Int) (s : State), ∃ q q' : Probe, s.station.powered = true ∧ s.station.sense.sampling = true ∧
     q = s.station.sense.jacket ∧
     q' =
         (match (conv.bind fun x =>
             if -300 ≤ x + q.code - 16 ∧ x + q.code - 16 ≤ 500 then some (x + q.code - 16) else none) with
           | some x =>
               { q with
                 hist := if q.state = .ok then q.hist.drop 1 ++ [x] else [x, x, x, x]
                 state := .ok
                 holdMs := if q.state = .ok then q.holdMs else none }
           | none => if q.state = .ok then { q with state := .holding, holdMs := some 0 } else q) ∧
     conv = some 500) ∧
    (∃ (conv : Option Int) (s : State), ∃ q q' : Probe, s.station.powered = true ∧ s.station.sense.sampling = true ∧
     q = s.station.sense.beer ∧
     q' =
         (match (conv.bind fun x =>
             if -300 ≤ x + q.code - 16 ∧ x + q.code - 16 ≤ 500 then some (x + q.code - 16) else none) with
           | some x =>
               { q with
                 hist := if q.state = .ok then q.hist.drop 1 ++ [x] else [x, x, x, x]
                 state := .ok
                 holdMs := if q.state = .ok then q.holdMs else none }
           | none => if q.state = .ok then { q with state := .holding, holdMs := some 0 } else q) ∧
     conv = some 501) ∧
    (∃ (n : Nat) (s : State), s.station.powered = true ∧ s.station.sense.jacket.state = .holding ∧
     s.station.sense.jacket.holdMs = some n) ∧
    (∃ (n : Nat) (s : State), s.station.powered = true ∧ s.station.sense.beer.state = .holding ∧
     s.station.sense.beer.holdMs = some n ∧ s.station.exc.probeLost = false ∧ s.station.exc.state = .normal ∧
     s.station.exc.h = false) ∧
    (∃ (n : Nat) (s : State), s.station.powered = true ∧ s.station.sense.beer.holdMs = none) ∧
    (∃ (n : Nat) (s : State), s.station.powered = true ∧ s.station.sense.jacket.holdMs = none) ∧
    (∃ (conv : Option Int) (s : State), ∃ q q' : Probe, s.station.powered = true ∧ s.station.sense.sampling = true ∧
     q = s.station.sense.beer ∧
     q' =
         (match (conv.bind fun x =>
             if -300 ≤ x + q.code - 16 ∧ x + q.code - 16 ≤ 500 then some (x + q.code - 16) else none) with
           | some x =>
               { q with
                 hist := if q.state = .ok then q.hist.drop 1 ++ [x] else [x, x, x, x]
                 state := .ok
                 holdMs := if q.state = .ok then q.holdMs else none }
           | none => if q.state = .ok then { q with state := .holding, holdMs := some 0 } else q) ∧
     s.station.holdFor .probeLost = true ∧ q'.state = .ok ∧ s.station.exc.probeLost = true) :=
  ⟨⟨some 500, now bay, _, _, by decide +kernel, by decide +kernel, rfl, rfl, by decide +kernel⟩,
    ⟨some 501, now bay, _, _, by decide +kernel, by decide +kernel, rfl, rfl, by decide +kernel⟩,
    ⟨30000, now { bay with sense.jacket := { holdMs := some 30000 } }, by decide +kernel⟩,
    ⟨30000, now { bay with sense.beer := { holdMs := some 30000 } }, by decide +kernel⟩,
    ⟨0, now bay, by decide +kernel⟩,
    ⟨0, now bay, by decide +kernel⟩,
    ⟨some 60, now { held .probeLost with exc.probeLost := true, sense.beer := { state := .failed } }, _, _,
  by decide +kernel, by decide +kernel, rfl, rfl, by decide +kernel⟩⟩

/-- Premises of `Obligations.FramesAreOfferedRetriedAndDropped`. -/
theorem test_frames_are_offered_retried_and_dropped_premises :
    (∃ s : State, s.station.powered = true ∧ s.station.link.tx = none ∧
     (s.station.req.restart ≠ some .done ∨ s.station.nv.setupWrite ≠ none)) ∧
    (∃ s : State, s.station.powered = true ∧ s.station.link.tx = none ∧ s.station.req.restart = some .done ∧
     s.station.nv.setupWrite = none) ∧
    (∃ (l : Link) (s : State), s.station.powered = true ∧ l = { s.station.link with tx := none, presLeft := none } ∧
     s.station.link.tx = some .claim) ∧
    (∃ (l : Link) (s : State), s.station.powered = true ∧ l = { s.station.link with tx := none, presLeft := none } ∧
     s.station.link.tx = some .excursion) ∧
    (∃ (l : Link) (s : State), s.station.powered = true ∧ l = { s.station.link with tx := none, presLeft := none } ∧
     s.station.link.tx = some .presence ∧ s.station.link.pres.aside = none) ∧
    (∃ (l : Link) (s : State), s.station.powered = true ∧ l = { s.station.link with tx := none, presLeft := none } ∧
     s.station.link.tx = some .event ∧ s.station.link.evt.aside = none) ∧
    (∃ (l : Link) (s : State), s.station.powered = true ∧ l = { s.station.link with tx := none, presLeft := none } ∧
     (s.station.link.tx = some .reply ∨ s.station.link.tx = some .pourReport)) ∧
    (∃ (l d : Link) (s : State), ∃ x, s.station.powered = true ∧
     l = { s.station.link with tx := none, presLeft := none } ∧
     d = { l with consec := s.station.link.consec + 1, drops := min 65535 (s.station.link.drops + 1) } ∧
     s.station.link.tx = some .claim ∧ s.station.link.claim.held = some x ∧ s.station.link.claim.aside = none ∧
     x.retries < 3) ∧
    (∃ (l d : Link) (s : State), ∃ y, s.station.powered = true ∧
     l = { s.station.link with tx := none, presLeft := none } ∧
     d = { l with consec := s.station.link.consec + 1, drops := min 65535 (s.station.link.drops + 1) } ∧
     s.station.link.tx = some .claim ∧ s.station.link.claim.aside = some y) ∧
    (∃ (l d : Link) (s : State), ∃ x, s.station.powered = true ∧
     l = { s.station.link with tx := none, presLeft := none } ∧
     d = { l with consec := s.station.link.consec + 1, drops := min 65535 (s.station.link.drops + 1) } ∧
     s.station.link.tx = some .claim ∧ s.station.link.claim.held = some x ∧ s.station.link.claim.aside = none ∧
     3 ≤ x.retries ∧ s.station.link.consec < 15 ∧
     (s.station.extraStands = false ∨ s.station.start.phase ≠ .running ∨ s.station.link.mute = true)) ∧
    (∃ (l d : Link) (s : State), ∃ x, s.station.powered = true ∧
     l = { s.station.link with tx := none, presLeft := none } ∧
     d = { l with consec := s.station.link.consec + 1, drops := min 65535 (s.station.link.drops + 1) } ∧
     s.station.link.tx = some .claim ∧ s.station.link.claim.held = some x ∧ s.station.link.claim.aside = none ∧
     3 ≤ x.retries ∧ s.station.link.consec < 15 ∧ s.station.extraStands = true ∧ s.station.start.phase = .running ∧
     s.station.link.mute = false ∧ s.station.link.spacingMs.isSome = true) ∧
    (∃ (l d : Link) (s : State), ∃ x, s.station.powered = true ∧
     l = { s.station.link with tx := none, presLeft := none } ∧
     d = { l with consec := s.station.link.consec + 1, drops := min 65535 (s.station.link.drops + 1) } ∧
     s.station.link.tx = some .claim ∧ s.station.link.claim.held = some x ∧ s.station.link.claim.aside = none ∧
     3 ≤ x.retries ∧ s.station.link.consec < 15 ∧ s.station.extraStands = true ∧ s.station.start.phase = .running ∧
     s.station.link.mute = false ∧ s.station.link.spacingMs = none) ∧
    (∃ (l d : Link) (s : State), ∃ x, s.station.powered = true ∧
     l = { s.station.link with tx := none, presLeft := none } ∧
     d = { l with consec := s.station.link.consec + 1, drops := min 65535 (s.station.link.drops + 1) } ∧
     s.station.link.tx = some .excursion ∧ s.station.link.exc.aside = none ∧ s.station.link.exc.held = some x ∧
     x.retries < 3) ∧
    (∃ (l d : Link) (s : State), ∃ x, s.station.powered = true ∧
     l = { s.station.link with tx := none, presLeft := none } ∧
     d = { l with consec := s.station.link.consec + 1, drops := min 65535 (s.station.link.drops + 1) } ∧
     s.station.link.tx = some .excursion ∧ s.station.link.exc.aside = none ∧ s.station.link.exc.held = some x ∧
     3 ≤ x.retries ∧ s.station.link.consec < 15) ∧
    (∃ (l d : Link) (s : State), ∃ x, s.station.powered = true ∧
     l = { s.station.link with tx := none, presLeft := none } ∧
     d = { l with consec := s.station.link.consec + 1, drops := min 65535 (s.station.link.drops + 1) } ∧
     s.station.link.tx = some .presence ∧ s.station.link.pres.aside = none ∧ s.station.link.pres.held = some x ∧
     x.retries < 3) ∧
    (∃ (l d : Link) (s : State), ∃ x, s.station.powered = true ∧
     l = { s.station.link with tx := none, presLeft := none } ∧
     d = { l with consec := s.station.link.consec + 1, drops := min 65535 (s.station.link.drops + 1) } ∧
     s.station.link.tx = some .presence ∧ s.station.link.pres.aside = none ∧ s.station.link.pres.held = some x ∧
     3 ≤ x.retries ∧ s.station.link.consec < 15) ∧
    (∃ (l d : Link) (s : State), ∃ x, s.station.powered = true ∧
     l = { s.station.link with tx := none, presLeft := none } ∧
     d = { l with consec := s.station.link.consec + 1, drops := min 65535 (s.station.link.drops + 1) } ∧
     s.station.link.tx = some .event ∧ s.station.link.evt.aside = none ∧ s.station.link.evt.held = some x ∧
     x.retries < 3) ∧
    (∃ (l d : Link) (s : State), ∃ x, s.station.powered = true ∧
     l = { s.station.link with tx := none, presLeft := none } ∧
     d = { l with consec := s.station.link.consec + 1, drops := min 65535 (s.station.link.drops + 1) } ∧
     s.station.link.tx = some .event ∧ s.station.link.evt.aside = none ∧ s.station.link.evt.held = some x ∧
     3 ≤ x.retries ∧ s.station.link.consec < 15) ∧
    (∃ (l d : Link) (s : State), ∃ e, s.station.powered = true ∧
     l = { s.station.link with tx := none, presLeft := none } ∧
     d = { l with consec := s.station.link.consec + 1, drops := min 65535 (s.station.link.drops + 1) } ∧
     s.station.link.tx = some .reply ∧ s.station.link.replies.head? = some e ∧ e.retries < 3) ∧
    (∃ (l d : Link) (s : State), ∃ e, s.station.powered = true ∧
     l = { s.station.link with tx := none, presLeft := none } ∧
     d = { l with consec := s.station.link.consec + 1, drops := min 65535 (s.station.link.drops + 1) } ∧
     s.station.link.tx = some .reply ∧ s.station.link.replies.head? = some e ∧ 3 ≤ e.retries ∧
     s.station.link.consec < 15) ∧
    (∃ (l d : Link) (s : State), ∃ e, s.station.powered = true ∧
     l = { s.station.link with tx := none, presLeft := none } ∧
     d = { l with consec := s.station.link.consec + 1, drops := min 65535 (s.station.link.drops + 1) } ∧
     s.station.link.tx = some .pourReport ∧ s.station.link.reports.head? = some e ∧ e.retries < 3) ∧
    (∃ (l d : Link) (s : State), ∃ e, s.station.powered = true ∧
     l = { s.station.link with tx := none, presLeft := none } ∧
     d = { l with consec := s.station.link.consec + 1, drops := min 65535 (s.station.link.drops + 1) } ∧
     s.station.link.tx = some .pourReport ∧ s.station.link.reports.head? = some e ∧ 3 ≤ e.retries ∧
     s.station.link.consec < 15) ∧
    (∃ (l d : Link) (s : State), s.station.powered = true ∧ l = { s.station.link with tx := none, presLeft := none } ∧
     d = { l with consec := s.station.link.consec + 1, drops := min 65535 (s.station.link.drops + 1) } ∧
     s.station.link.tx = none) ∧
    (∃ (l d : Link) (s : State), ∃ x, s.station.powered = true ∧
     l = { s.station.link with tx := none, presLeft := none } ∧
     d = { l with consec := s.station.link.consec + 1, drops := min 65535 (s.station.link.drops + 1) } ∧
     s.station.link.tx = some .claim ∧ s.station.link.mute = true ∧ s.station.link.claim.aside = none ∧
     s.station.link.claim.held = some x ∧ 3 ≤ x.retries) :=
  ⟨⟨now { sending .claim 0 with link.tx := none }, by decide +kernel⟩,
    ⟨now restarting, by decide +kernel⟩,
    ⟨_, now (sending .claim 0), by decide +kernel, rfl, by decide +kernel⟩,
    ⟨_, now (sending .excursion 0), by decide +kernel, rfl, by decide +kernel⟩,
    ⟨_, now (sending .presence 0), by decide +kernel, rfl, by decide +kernel⟩,
    ⟨_, now (sending .event 0), by decide +kernel, rfl, by decide +kernel⟩,
    ⟨_, now (sending .reply 0), by decide +kernel, rfl, by decide +kernel⟩,
    ⟨_, _, now (sending .claim 2), ⟨claim, 2⟩, by decide +kernel, rfl, rfl, by decide +kernel⟩,
    ⟨_, _, now { sending .claim 2 with link.claim.aside := some ⟨claim, 0⟩ }, ⟨claim, 0⟩, by decide +kernel, rfl, rfl,
  by decide +kernel⟩,
    ⟨_, _, now (sending .claim 3), ⟨claim, 3⟩, by decide +kernel, rfl, rfl, by decide +kernel⟩,
    ⟨_, _, now (raising (some 40)), ⟨claim, 3⟩, by decide +kernel, rfl, rfl, by decide +kernel⟩,
    ⟨_, _, now (raising none), ⟨claim, 3⟩, by decide +kernel, rfl, rfl, by decide +kernel⟩,
    ⟨_, _, now (sending .excursion 2), ⟨⟨.single, .normal, none⟩, 2⟩, by decide +kernel, rfl, rfl, by decide +kernel⟩,
    ⟨_, _, now (sending .excursion 3), ⟨⟨.single, .normal, none⟩, 3⟩, by decide +kernel, rfl, rfl, by decide +kernel⟩,
    ⟨_, _, now (sending .presence 2), ⟨⟨.single, ⟨30, 16, 2⟩⟩, 2⟩, by decide +kernel, rfl, rfl, by decide +kernel⟩,
    ⟨_, _, now (sending .presence 3), ⟨⟨.single, ⟨30, 16, 2⟩⟩, 3⟩, by decide +kernel, rfl, rfl, by decide +kernel⟩,
    ⟨_, _, now (sending .event 2), ⟨⟨[], 3⟩, 2⟩, by decide +kernel, rfl, rfl, by decide +kernel⟩,
    ⟨_, _, now (sending .event 3), ⟨⟨[], 3⟩, 3⟩, by decide +kernel, rfl, rfl, by decide +kernel⟩,
    ⟨_, _, now (sending .reply 2), { code := 16, retries := 2 }, by decide +kernel, rfl, rfl, by decide +kernel⟩,
    ⟨_, _, now (sending .reply 3), { code := 16, retries := 3 }, by decide +kernel, rfl, rfl, by decide +kernel⟩,
    ⟨_, _, now (sending .pourReport 2), ⟨⟨1, .glass, 300, 270, 34, .done⟩, 2⟩, by decide +kernel, rfl, rfl,
  by decide +kernel⟩,
    ⟨_, _, now (sending .pourReport 3), ⟨⟨1, .glass, 300, 270, 34, .done⟩, 3⟩, by decide +kernel, rfl, rfl,
  by decide +kernel⟩,
    ⟨_, _, now bay, by decide +kernel, rfl, rfl, by decide +kernel⟩,
    ⟨_, _, now { sending .claim 3 with link.mute := true, link.consec := 16 }, ⟨claim, 3⟩, by decide +kernel, rfl, rfl,
  by decide +kernel⟩⟩

/-- Premises of `Obligations.MuteIsEnteredAndCleared`. -/
theorem test_mute_is_entered_and_cleared_premises :
    (∃ s : State, s.station.powered = true ∧ s.station.link.consec = 15 ∧ s.station.link.mute = false ∧
     ((s.station.link.tx = some .claim ∧ s.station.link.claim.aside = none ∧
       s.station.link.claim.held.any (fun x => decide (3 ≤ x.retries)) = true) ∨
       (s.station.link.tx = some .excursion ∧ s.station.link.exc.aside = none ∧
       s.station.link.exc.held.any (fun x => decide (3 ≤ x.retries)) = true) ∨ (s.station.link.tx = some .presence ∧
       s.station.link.pres.aside = none ∧ s.station.link.pres.held.any (fun x => decide (3 ≤ x.retries)) = true) ∨
       (s.station.link.tx = some .event ∧ s.station.link.evt.aside = none ∧
       s.station.link.evt.held.any (fun x => decide (3 ≤ x.retries)) = true) ∨ (s.station.link.tx = some .reply ∧
       s.station.link.replies.head?.any (fun x => decide (3 ≤ x.retries)) = true) ∨
       (s.station.link.tx = some .pourReport ∧
       s.station.link.reports.head?.any (fun x => decide (3 ≤ x.retries)) = true)) ∧
     s.station.link.tx = some .claim ∧ s.station.exc.state = .normal ∧ s.station.exc.h = false) ∧
    (∃ s : State, s.station.powered = true ∧ s.station.link.consec = 15 ∧ s.station.link.mute = false ∧
     ((s.station.link.tx = some .claim ∧ s.station.link.claim.aside = none ∧
       s.station.link.claim.held.any (fun x => decide (3 ≤ x.retries)) = true) ∨
       (s.station.link.tx = some .excursion ∧ s.station.link.exc.aside = none ∧
       s.station.link.exc.held.any (fun x => decide (3 ≤ x.retries)) = true) ∨ (s.station.link.tx = some .presence ∧
       s.station.link.pres.aside = none ∧ s.station.link.pres.held.any (fun x => decide (3 ≤ x.retries)) = true) ∨
       (s.station.link.tx = some .event ∧ s.station.link.evt.aside = none ∧
       s.station.link.evt.held.any (fun x => decide (3 ≤ x.retries)) = true) ∨ (s.station.link.tx = some .reply ∧
       s.station.link.replies.head?.any (fun x => decide (3 ≤ x.retries)) = true) ∨
       (s.station.link.tx = some .pourReport ∧
       s.station.link.reports.head?.any (fun x => decide (3 ≤ x.retries)) = true)) ∧
     s.station.link.tx = some .excursion) ∧
    (∃ s : State, s.station.powered = true ∧ s.station.link.consec = 15 ∧ s.station.link.mute = false ∧
     ((s.station.link.tx = some .claim ∧ s.station.link.claim.aside = none ∧
       s.station.link.claim.held.any (fun x => decide (3 ≤ x.retries)) = true) ∨
       (s.station.link.tx = some .excursion ∧ s.station.link.exc.aside = none ∧
       s.station.link.exc.held.any (fun x => decide (3 ≤ x.retries)) = true) ∨ (s.station.link.tx = some .presence ∧
       s.station.link.pres.aside = none ∧ s.station.link.pres.held.any (fun x => decide (3 ≤ x.retries)) = true) ∨
       (s.station.link.tx = some .event ∧ s.station.link.evt.aside = none ∧
       s.station.link.evt.held.any (fun x => decide (3 ≤ x.retries)) = true) ∨ (s.station.link.tx = some .reply ∧
       s.station.link.replies.head?.any (fun x => decide (3 ≤ x.retries)) = true) ∨
       (s.station.link.tx = some .pourReport ∧
       s.station.link.reports.head?.any (fun x => decide (3 ≤ x.retries)) = true)) ∧
     s.station.link.tx = some .presence) ∧
    (∃ s : State, s.station.powered = true ∧ s.station.link.consec = 15 ∧ s.station.link.mute = false ∧
     ((s.station.link.tx = some .claim ∧ s.station.link.claim.aside = none ∧
       s.station.link.claim.held.any (fun x => decide (3 ≤ x.retries)) = true) ∨
       (s.station.link.tx = some .excursion ∧ s.station.link.exc.aside = none ∧
       s.station.link.exc.held.any (fun x => decide (3 ≤ x.retries)) = true) ∨ (s.station.link.tx = some .presence ∧
       s.station.link.pres.aside = none ∧ s.station.link.pres.held.any (fun x => decide (3 ≤ x.retries)) = true) ∨
       (s.station.link.tx = some .event ∧ s.station.link.evt.aside = none ∧
       s.station.link.evt.held.any (fun x => decide (3 ≤ x.retries)) = true) ∨ (s.station.link.tx = some .reply ∧
       s.station.link.replies.head?.any (fun x => decide (3 ≤ x.retries)) = true) ∨
       (s.station.link.tx = some .pourReport ∧
       s.station.link.reports.head?.any (fun x => decide (3 ≤ x.retries)) = true)) ∧
     s.station.link.tx = some .event) ∧
    (∃ s : State, s.station.powered = true ∧ s.station.link.consec = 15 ∧ s.station.link.mute = false ∧
     ((s.station.link.tx = some .claim ∧ s.station.link.claim.aside = none ∧
       s.station.link.claim.held.any (fun x => decide (3 ≤ x.retries)) = true) ∨
       (s.station.link.tx = some .excursion ∧ s.station.link.exc.aside = none ∧
       s.station.link.exc.held.any (fun x => decide (3 ≤ x.retries)) = true) ∨ (s.station.link.tx = some .presence ∧
       s.station.link.pres.aside = none ∧ s.station.link.pres.held.any (fun x => decide (3 ≤ x.retries)) = true) ∨
       (s.station.link.tx = some .event ∧ s.station.link.evt.aside = none ∧
       s.station.link.evt.held.any (fun x => decide (3 ≤ x.retries)) = true) ∨ (s.station.link.tx = some .reply ∧
       s.station.link.replies.head?.any (fun x => decide (3 ≤ x.retries)) = true) ∨
       (s.station.link.tx = some .pourReport ∧
       s.station.link.reports.head?.any (fun x => decide (3 ≤ x.retries)) = true)) ∧
     s.station.link.tx = some .reply) ∧
    (∃ s : State, s.station.powered = true ∧ s.station.link.consec = 15 ∧ s.station.link.mute = false ∧
     ((s.station.link.tx = some .claim ∧ s.station.link.claim.aside = none ∧
       s.station.link.claim.held.any (fun x => decide (3 ≤ x.retries)) = true) ∨
       (s.station.link.tx = some .excursion ∧ s.station.link.exc.aside = none ∧
       s.station.link.exc.held.any (fun x => decide (3 ≤ x.retries)) = true) ∨ (s.station.link.tx = some .presence ∧
       s.station.link.pres.aside = none ∧ s.station.link.pres.held.any (fun x => decide (3 ≤ x.retries)) = true) ∨
       (s.station.link.tx = some .event ∧ s.station.link.evt.aside = none ∧
       s.station.link.evt.held.any (fun x => decide (3 ≤ x.retries)) = true) ∨ (s.station.link.tx = some .reply ∧
       s.station.link.replies.head?.any (fun x => decide (3 ≤ x.retries)) = true) ∨
       (s.station.link.tx = some .pourReport ∧
       s.station.link.reports.head?.any (fun x => decide (3 ≤ x.retries)) = true)) ∧
     s.station.link.tx = some .pourReport) ∧
    (∃ (x : Held ClaimNotice) (s : State), s.station.powered = true ∧ s.station.link.tx = some .claim ∧
     s.station.link.claim.held = some x ∧ s.station.link.mute = true ∧ s.station.exc.state = .safeHold ∧
     s.station.exc.kind = some .linkMute) :=
  ⟨⟨now { sending .claim 3 with link.consec := 15 }, by decide +kernel⟩,
    ⟨now { sending .excursion 3 with link.consec := 15 }, by decide +kernel⟩,
    ⟨now { sending .presence 3 with link.consec := 15 }, by decide +kernel⟩,
    ⟨now { sending .event 3 with link.consec := 15 }, by decide +kernel⟩,
    ⟨now { sending .reply 3 with link.consec := 15 }, by decide +kernel⟩,
    ⟨now { sending .pourReport 3 with link.consec := 15 }, by decide +kernel⟩,
    ⟨⟨claim, 0⟩, now { held .linkMute with link := { (sending .claim 0).link with mute := true } }, by decide +kernel⟩⟩

/-- Premises of `Obligations.SuccessfulSendsAreTaken`. -/
theorem test_successful_sends_are_taken_premises :
    (∃ (l : Link) (s : State), ∃ x, ∃ its, ∃ w, s.station.powered = true ∧
     (s.station.start.phase = .window ∨ s.station.start.phase = .running) ∧ s.station.pools.isolated = false ∧
     s.station.link.mute = false ∧ l = { s.station.link with tx := none, presLeft := none, consec := 0 } ∧
     s.station.link.claim.held = some x ∧ s.station.link.tx = some .claim ∧
     its =
         (⟨{ s.station.pools.items.heat with lastSent := some x.body.claims.heat }
         , { s.station.pools.items.chill with lastSent := some x.body.claims.chill }
         , { s.station.pools.items.gas with lastSent := some x.body.claims.gas }⟩ : PerPool PoolItem) ∧
     w = [Pool.heat, Pool.chill,
       Pool.gas].any (fun p => (s.station.item p).level.isSome && x.body.claims.get p != (s.station.item p).own) ∧
     (w = false ∨ s.station.link.claim.aside.isSome = true ∨ s.station.start.phase = .window) ∧ w = false) ∧
    (∃ (l : Link) (s : State), ∃ x, ∃ its, ∃ w, s.station.powered = true ∧
     (s.station.start.phase = .window ∨ s.station.start.phase = .running) ∧ s.station.pools.isolated = false ∧
     s.station.link.mute = false ∧ l = { s.station.link with tx := none, presLeft := none, consec := 0 } ∧
     s.station.link.claim.held = some x ∧ s.station.link.tx = some .claim ∧
     its =
         (⟨{ s.station.pools.items.heat with lastSent := some x.body.claims.heat }
         , { s.station.pools.items.chill with lastSent := some x.body.claims.chill }
         , { s.station.pools.items.gas with lastSent := some x.body.claims.gas }⟩ : PerPool PoolItem) ∧
     w = [Pool.heat, Pool.chill,
       Pool.gas].any (fun p => (s.station.item p).level.isSome && x.body.claims.get p != (s.station.item p).own) ∧
     (w = false ∨ s.station.link.claim.aside.isSome = true ∨ s.station.start.phase = .window) ∧ w = true ∧
     s.station.link.claim.aside.isSome = true) ∧
    (∃ (l : Link) (s : State), ∃ x, ∃ its, ∃ w, s.station.powered = true ∧
     (s.station.start.phase = .window ∨ s.station.start.phase = .running) ∧ s.station.pools.isolated = false ∧
     s.station.link.mute = false ∧ l = { s.station.link with tx := none, presLeft := none, consec := 0 } ∧
     s.station.link.claim.held = some x ∧ s.station.link.tx = some .claim ∧
     its =
         (⟨{ s.station.pools.items.heat with lastSent := some x.body.claims.heat }
         , { s.station.pools.items.chill with lastSent := some x.body.claims.chill }
         , { s.station.pools.items.gas with lastSent := some x.body.claims.gas }⟩ : PerPool PoolItem) ∧
     w = [Pool.heat, Pool.chill,
       Pool.gas].any (fun p => (s.station.item p).level.isSome && x.body.claims.get p != (s.station.item p).own) ∧
     (w = false ∨ s.station.link.claim.aside.isSome = true ∨ s.station.start.phase = .window) ∧ w = true ∧
     s.station.start.phase = .window) ∧
    (∃ (l : Link) (s : State), ∃ x, ∃ its, ∃ w, s.station.powered = true ∧
     (s.station.start.phase = .window ∨ s.station.start.phase = .running) ∧ s.station.pools.isolated = false ∧
     s.station.link.mute = false ∧ l = { s.station.link with tx := none, presLeft := none, consec := 0 } ∧
     s.station.link.claim.held = some x ∧ s.station.link.tx = some .claim ∧
     its =
         (⟨{ s.station.pools.items.heat with lastSent := some x.body.claims.heat }
         , { s.station.pools.items.chill with lastSent := some x.body.claims.chill }
         , { s.station.pools.items.gas with lastSent := some x.body.claims.gas }⟩ : PerPool PoolItem) ∧
     w = [Pool.heat, Pool.chill,
       Pool.gas].any (fun p => (s.station.item p).level.isSome && x.body.claims.get p != (s.station.item p).own) ∧
     w = true ∧ s.station.link.claim.aside = none ∧ s.station.start.phase = .running ∧
     s.station.link.spacingMs.isSome = true) ∧
    (∃ (l : Link) (s : State), ∃ x, ∃ its, ∃ w, s.station.powered = true ∧
     (s.station.start.phase = .window ∨ s.station.start.phase = .running) ∧ s.station.pools.isolated = false ∧
     s.station.link.mute = false ∧ l = { s.station.link with tx := none, presLeft := none, consec := 0 } ∧
     s.station.link.claim.held = some x ∧ s.station.link.tx = some .claim ∧
     its =
         (⟨{ s.station.pools.items.heat with lastSent := some x.body.claims.heat }
         , { s.station.pools.items.chill with lastSent := some x.body.claims.chill }
         , { s.station.pools.items.gas with lastSent := some x.body.claims.gas }⟩ : PerPool PoolItem) ∧
     w = [Pool.heat, Pool.chill,
       Pool.gas].any (fun p => (s.station.item p).level.isSome && x.body.claims.get p != (s.station.item p).own) ∧
     w = true ∧ s.station.link.claim.aside = none ∧ s.station.start.phase = .running ∧
       s.station.link.spacingMs = none) ∧
    (∃ (l : Link) (s : State), ∃ x, s.station.powered = true ∧
     (s.station.start.phase = .window ∨ s.station.start.phase = .running) ∧ s.station.pools.isolated = false ∧
     s.station.link.mute = false ∧ l = { s.station.link with tx := none, presLeft := none, consec := 0 } ∧
     s.station.link.evt.held = some x ∧ s.station.link.tx = some .event ∧ s.station.req.joined = 2) ∧
    (∃ (l : Link) (s : State), ∃ e, s.station.powered = true ∧
     (s.station.start.phase = .window ∨ s.station.start.phase = .running) ∧ s.station.pools.isolated = false ∧
     s.station.link.mute = false ∧ l = { s.station.link with tx := none, presLeft := none, consec := 0 } ∧
     s.station.link.replies.head? = some e ∧ s.station.link.tx = some .reply ∧ e.next + 1 = e.parts) ∧
    (∃ (l : Link) (s : State), ∃ e, s.station.powered = true ∧
     (s.station.start.phase = .window ∨ s.station.start.phase = .running) ∧ s.station.pools.isolated = false ∧
     s.station.link.mute = false ∧ l = { s.station.link with tx := none, presLeft := none, consec := 0 } ∧
     s.station.link.replies.head? = some e ∧ s.station.link.tx = some .reply ∧ e.next + 1 < e.parts) ∧
    (∃ (l : Link) (s : State), s.station.powered = true ∧
     (s.station.start.phase = .window ∨ s.station.start.phase = .running) ∧ s.station.pools.isolated = false ∧
     s.station.link.mute = false ∧ l = { s.station.link with tx := none, presLeft := none, consec := 0 } ∧
     s.station.link.tx = some .pourReport) ∧
    (∃ (l : Link) (s : State), s.station.powered = true ∧
     (s.station.start.phase = .window ∨ s.station.start.phase = .running) ∧ s.station.pools.isolated = false ∧
     s.station.link.mute = false ∧ l = { s.station.link with tx := none, presLeft := none, consec := 0 } ∧
     s.station.link.tx = some .excursion) ∧
    (∃ (l : Link) (s : State), s.station.powered = true ∧
     (s.station.start.phase = .window ∨ s.station.start.phase = .running) ∧ s.station.pools.isolated = false ∧
     s.station.link.mute = false ∧ l = { s.station.link with tx := none, presLeft := none, consec := 0 } ∧
     s.station.link.tx = some .presence) ∧
    (∃ (l : Link) (s : State), s.station.powered = true ∧
     (s.station.start.phase = .window ∨ s.station.start.phase = .running) ∧ s.station.pools.isolated = false ∧
     s.station.link.mute = false ∧ l = { s.station.link with tx := none, presLeft := none, consec := 0 } ∧
     s.station.link.tx = some .presence ∧ s.station.start.phase = .window) ∧
    (∃ s : State, s.station.powered = true ∧ (s.station.start.phase = .window ∨ s.station.start.phase = .running) ∧
     s.station.pools.isolated = true ∧ s.station.link.mute = false ∧ s.station.holdFor .linkMute = false ∧
     s.station.link.tx ≠ none ∧ s.station.start.phase = .window) ∧
    (∃ s : State, s.station.powered = true ∧ (s.station.start.phase = .window ∨ s.station.start.phase = .running) ∧
     s.station.pools.isolated = true ∧ s.station.link.mute = false ∧ s.station.holdFor .linkMute = false ∧
     s.station.link.tx ≠ none ∧ s.station.start.phase = .running ∧
     (s.station.item .heat).inUse < ({ s.station with pools.isolated := false } : Station).computeGrant .heat) :=
  ⟨⟨_, now (sending .claim 0), ⟨claim, 0⟩, _, _, by decide +kernel, by decide +kernel, by decide +kernel,
  by decide +kernel, rfl, by decide +kernel, by decide +kernel, rfl, rfl, by decide +kernel, rfl⟩,
    ⟨_, now { raising none with link.claim.aside := some ⟨claim, 0⟩ }, ⟨claim, 3⟩, _, _, by decide +kernel,
  by decide +kernel, by decide +kernel, by decide +kernel, rfl, by decide +kernel, by decide +kernel, rfl, rfl,
  by decide +kernel, rfl, by decide +kernel⟩,
    ⟨_, now { raising none with start.phase := .window }, ⟨claim, 3⟩, _, _, by decide +kernel, by decide +kernel,
  by decide +kernel, by decide +kernel, rfl, by decide +kernel, by decide +kernel, rfl, rfl, by decide +kernel, rfl,
  by decide +kernel⟩,
    ⟨_, now (raising (some 40)), ⟨claim, 3⟩, _, _, by decide +kernel, by decide +kernel, by decide +kernel,
  by decide +kernel, rfl, by decide +kernel, by decide +kernel, rfl, rfl, rfl, by decide +kernel⟩,
    ⟨_, now (raising none), ⟨claim, 3⟩, _, _, by decide +kernel, by decide +kernel, by decide +kernel,
  by decide +kernel, rfl, by decide +kernel, by decide +kernel, rfl, rfl, rfl, by decide +kernel⟩,
    ⟨_, now { sending .event 0 with req.cause := 3, req.joined := 2 }, ⟨⟨[], 3⟩, 0⟩, by decide +kernel,
  by decide +kernel, by decide +kernel, by decide +kernel, rfl, by decide +kernel⟩,
    ⟨_, now (sending .reply 0), { code := 16 }, by decide +kernel, by decide +kernel, by decide +kernel,
  by decide +kernel, rfl, by decide +kernel⟩,
    ⟨_, now { sending .reply 0 with link.replies := [longReply] }, longReply, by decide +kernel, by decide +kernel,
  by decide +kernel, by decide +kernel, rfl, by decide +kernel⟩,
    ⟨_, now (sending .pourReport 0), by decide +kernel, by decide +kernel, by decide +kernel, by decide +kernel, rfl,
  by decide +kernel⟩,
    ⟨_, now (sending .excursion 0), by decide +kernel, by decide +kernel, by decide +kernel, by decide +kernel, rfl,
  by decide +kernel⟩,
    ⟨_, now (sending .presence 0), by decide +kernel, by decide +kernel, by decide +kernel, by decide +kernel, rfl,
  by decide +kernel⟩,
    ⟨_, now { sending .presence 0 with start.phase := .window }, by decide +kernel, by decide +kernel,
  by decide +kernel, by decide +kernel, rfl, by decide +kernel⟩,
    ⟨now { sending .presence 0 with start.phase := .window, pools.isolated := true }, by decide +kernel⟩,
    ⟨now { pooled with link := (sending .claim 0).link, pools.isolated := true }, by decide +kernel⟩⟩

/-- Premises of `Obligations.FramesAreCountedAndDelivered`. -/
theorem test_frames_are_counted_and_delivered_premises :
    (∃ (bits : List Bool) (n : BitVec 3) (p : List Byte) (c : Instr) (s : State), s.station.link.idleSeen = false ∧
     (c = .frameReceived bits ∨ c = .claimNoticeReceived n p ∨ c = .presenceNoticeReceived n p ∨
       c = .excursionNoticeReceived n p ∨ c = .requestPartReceived p)) ∧
    (∃ (bits : List Bool) (s : State), s.station.powered = true ∧ s.station.link.idleSeen = true ∧
     receiveBits bits = none ∧ s.station.health.winCount = 998) ∧
    (∃ (bits : List Bool) (s : State), ∃ f, s.station.powered = true ∧ s.station.link.idleSeen = true ∧
     receiveBits bits = some f ∧ f.sender.toNat < 8 ∧ f.sender.toNat ≠ s.station.start.id ∧ f.kind = 1) ∧
    (∃ (bits : List Bool) (s : State), ∃ f, s.station.powered = true ∧ s.station.link.idleSeen = true ∧
     receiveBits bits = some f ∧ f.sender.toNat < 8 ∧ f.sender.toNat ≠ s.station.start.id ∧ f.kind = 2) ∧
    (∃ (bits : List Bool) (s : State), ∃ f, s.station.powered = true ∧ s.station.link.idleSeen = true ∧
     receiveBits bits = some f ∧ f.sender.toNat < 8 ∧ f.sender.toNat ≠ s.station.start.id ∧ f.kind = 3) ∧
    (∃ (bits : List Bool) (s : State), ∃ f, s.station.powered = true ∧ s.station.link.idleSeen = true ∧
     receiveBits bits = some f ∧ f.sender.toNat < 8 ∧ f.sender.toNat = s.station.start.id) ∧
    (∃ (bits : List Bool) (s : State), ∃ f, s.station.powered = true ∧ s.station.link.idleSeen = true ∧
     receiveBits bits = some f ∧ f.sender = 14 ∧ f.kind = 4 ∧ f.dest.toNat = s.station.start.id ∧
     s.station.start.id < 8) ∧
    (∃ (bits : List Bool) (s : State), ∃ f, s.station.powered = true ∧ s.station.link.idleSeen = true ∧
     receiveBits bits = some f ∧ f.sender.toNat ≠ s.station.start.id ∧
     (f.sender = 14 → f.kind = 4 → f.dest.toNat ≠ s.station.start.id) ∧
     (f.sender.toNat < 8 → (f.kind = 1 → readPresence f.payload = none) ∧ (f.kind = 2 → readClaim f.payload = none) ∧
       (f.kind = 3 → readExcursion f.payload = none)) ∧
     s.station.health.winCount < 999 ∧ (s.station.start.phase = .window ∨ s.station.start.phase = .running) ∧
     s.station.pools.isolated = false) ∧
    (∃ (bits : List Bool) (s : State), s.station.powered = true ∧ s.station.link.idleSeen = true ∧
     receiveBits bits = none ∧ bitsNat (((bits.drop 1).drop 15).take 5) = 17) ∧
    (∃ (bits : List Bool) (s : State), ∃ f, s.station.powered = true ∧ s.station.link.idleSeen = true ∧
     receiveBits bits = some f ∧ f.sender.toNat ≠ s.station.start.id ∧
     (f.sender = 14 → f.kind = 4 → f.dest.toNat ≠ s.station.start.id) ∧
     (f.sender.toNat < 8 → (f.kind = 1 → readPresence f.payload = none) ∧ (f.kind = 2 → readClaim f.payload = none) ∧
       (f.kind = 3 → readExcursion f.payload = none)) ∧
     s.station.health.winCount < 999 ∧ (s.station.start.phase = .window ∨ s.station.start.phase = .running) ∧
     s.station.pools.isolated = true ∧ s.station.holdFor .linkMute = false) :=
  ⟨⟨Frame.bits foreign, 3, [], .claimNoticeReceived 3 [], now { bay with link.idleSeen := false }, by decide +kernel,
  .inr (.inl rfl)⟩,
    ⟨Frame.bits ⟨5, 9, 15, 3, [1, 2]⟩, now { bay with health.winCount := 998 }, by decide +kernel⟩,
    ⟨Frame.bits ⟨5, 2, 15, 1, [0, 40, 10, 2]⟩, now bay, ⟨5, 2, 15, 1, [0, 40, 10, 2]⟩, by decide +kernel⟩,
    ⟨Frame.bits ⟨5, 2, 15, 2, claimBytes⟩, now bay, ⟨5, 2, 15, 2, claimBytes⟩, by decide +kernel⟩,
    ⟨Frame.bits ⟨1, 2, 15, 3, [1, 4]⟩, now bay, ⟨1, 2, 15, 3, [1, 4]⟩, by decide +kernel⟩,
    ⟨Frame.bits ⟨1, 3, 15, 3, [1, 4]⟩, now bay, ⟨1, 3, 15, 3, [1, 4]⟩, by decide +kernel⟩,
    ⟨Frame.bits ⟨6, 14, 3, 4, [16, 0, 1]⟩, now bay, ⟨6, 14, 3, 4, [16, 0, 1]⟩, by decide +kernel⟩,
    ⟨foreign.bits, now bay, foreign, by decide +kernel⟩,
    ⟨(List.replicate 16 false ++ [true, false, false, false, true] ++ List.replicate 20 true), now bay,
  by decide +kernel⟩,
    ⟨foreign.bits, now { pooled with pools.isolated := true }, foreign, by decide +kernel⟩⟩

/-- Premises of `Obligations.NoticesMakeThePeerView`. -/
theorem test_notices_make_the_peer_view_premises :
    (∃ (n : BitVec 3) (p : List Byte) (c : ClaimNotice) (s : State), s.station.powered = true ∧
     s.station.link.idleSeen = true ∧ n.toNat ≠ s.station.start.id ∧ readClaim p = some c ∧
     (s.station.peer? n.toNat).bind (·.seq) = some c.seq) ∧
    (∃ (n : BitVec 3) (p : List Byte) (c : ClaimNotice) (s : State), s.station.powered = true ∧
     s.station.link.idleSeen = true ∧ n.toNat ≠ s.station.start.id ∧ readClaim p = some c ∧
     (s.station.peer? n.toNat).bind (·.seq) = some 9 ∧ c.seq = 4) ∧
    (∃ (n : BitVec 3) (p : List Byte) (c : ClaimNotice) (s : State), s.station.powered = true ∧
     s.station.link.idleSeen = true ∧ n.toNat ≠ s.station.start.id ∧ readClaim p = some c ∧
     s.station.peer? n.toNat = none) ∧
    (∃ (n : BitVec 3) (p : List Byte) (s : State), ∃ c, s.station.powered = true ∧ s.station.link.idleSeen = true ∧
     n.toNat ≠ s.station.start.id ∧ readPresence p = some c ∧ s.station.start.phase = .running) ∧
    (∃ (n : BitVec 3) (p : List Byte) (s : State), ∃ c, s.station.powered = true ∧ s.station.link.idleSeen = true ∧
     n.toNat ≠ s.station.start.id ∧ readExcursion p = some c) :=
  ⟨⟨2, claimBytes, (readClaim claimBytes).getD claim,
  now { pooled with pools.peers := [{ id := 2, role := .single, seq := some 4 }, peer 5 .single] }, by decide +kernel⟩,
    ⟨2, claimBytes, (readClaim claimBytes).getD claim, now pooled, by decide +kernel⟩,
    ⟨7, claimBytes, (readClaim claimBytes).getD claim, now pooled, by decide +kernel⟩,
    ⟨2, [0, 40, 10, 2], now pooled, _, by decide +kernel, by decide +kernel, by decide +kernel, rfl, by decide +kernel⟩,
    ⟨2, [1, 4], now pooled, _, by decide +kernel, by decide +kernel, by decide +kernel, rfl⟩⟩

/-- Premises of `Obligations.AFrameSentIsTheFrameReceived`. -/
theorem test_a_frame_sent_is_the_frame_received_premises :
    (∃ f : Frame, f.payload.length ≤ 16 ∧ 1 ≤ f.kind.toNat ∧ f.kind.toNat ≤ 7 ∧
     (f.sender.toNat < 8 ∨ 14 ≤ f.sender.toNat)) ∧
    (∃ f : Frame, f.payload.length ≤ 16 ∧ 1 ≤ f.kind.toNat ∧ f.kind.toNat ≤ 7 ∧
     (f.sender.toNat < 8 ∨ 14 ≤ f.sender.toNat) ∧ f.payload.length = 16) :=
  ⟨⟨foreign, by decide +kernel⟩,
    ⟨⟨0, 7, 15, 7, List.replicate 16 0⟩, by decide +kernel⟩⟩

/-- Premises of `Obligations.AllocationSharesTheBudget`. -/
theorem test_allocation_shares_the_budget_premises :
    (∃ (p : Pool) (s : Station), (∀ e ∈ s.pools.peers, e.id ≠ s.start.id)) ∧
    (∃ (b f : Nat) (parts pre post : List Part) (x : Part), f = b / parts.length ∧ (pre ++ x :: post).Perm parts ∧
     (parts.map (·.id)).Nodup ∧
     ((pre ++ x :: post).Pairwise (fun y z => z.claim.cls.code < y.claim.cls.code ∨
       (z.claim.cls.code = y.claim.cls.code ∧ y.id < z.id)))) ∧
    (∃ (b f : Nat) (parts pre post : List Part) (x : Part), f = b / parts.length ∧ (pre ++ x :: post).Perm parts ∧
     (parts.map (·.id)).Nodup ∧
     ((pre ++ x :: post).Pairwise (fun y z => z.claim.cls.code < y.claim.cls.code ∨
       (z.claim.cls.code = y.claim.cls.code ∧ y.id < z.id))) ∧
     x.claim.cls = .hold) ∧
    (∃ (b : Nat) (parts : List Part), parts ≠ []) :=
  ⟨⟨.heat, pooled, by decide +kernel⟩,
    ⟨30, 15, [⟨5, ⟨6, .pull⟩⟩, ⟨2, ⟨20, .recover⟩⟩], [⟨2, ⟨20, .recover⟩⟩], [], ⟨5, ⟨6, .pull⟩⟩, by decide +kernel⟩,
    ⟨31, 10, [⟨5, ⟨12, .hold⟩⟩, ⟨0, ⟨12, .hold⟩⟩, ⟨2, ⟨20, .hold⟩⟩], [⟨0, ⟨12, .hold⟩⟩], [⟨5, ⟨12, .hold⟩⟩],
  ⟨2, ⟨20, .hold⟩⟩, by decide +kernel⟩,
    ⟨30, [⟨1, ⟨3, .hold⟩⟩], by decide +kernel⟩⟩

/-- Premises of `Obligations.SettleAndSilenceGiveInUse`. -/
theorem test_settle_and_silence_give_in_use_premises :
    (∃ (p : Pool) (s : State), s.station.powered = true ∧ (s.station.item p).level.isSome = true ∧
     (s.station.item p).lastSent = some (s.station.item p).own ∧ (s.station.item p).inUse ≤ (s.station.item p).grant ∧
     p = .gas ∧ (s.station.item p).grant = 1 ∧ (s.station.item p).inUse = 0 ∧ (s.station.item p).posted.demand = 1) ∧
    (∃ (p : Pool) (s : State), s.station.powered = true ∧ (s.station.item p).lastSent ≠ some (s.station.item p).own) ∧
    (∃ (n : Nat) (s : State), s.station.powered = true ∧ s.station.pools.silenceMs = some n ∧
     s.station.pools.peers = []) ∧
    (∃ (n : Nat) (s : State), s.station.powered = true ∧ s.station.pools.silenceMs = some n ∧
     s.station.pools.peers ≠ [] ∧ s.station.poolHeld .heat = true ∧ s.station.poolHeld .gas = false) ∧
    (∃ (p : Pool) (s : State), s.station.powered = true ∧ (s.station.item p).level.isSome = true ∧
     (s.station.item p).lastSent = some (s.station.item p).own ∧ (s.station.item p).inUse ≤ (s.station.item p).grant ∧
     p = .gas ∧ s.station.modeInForce = some .carb ∧ s.station.press.pt = some 120 ∧ s.station.press.bandReq = true ∧
     (s.station.item p).own = (s.station.item p).posted ∧ (s.station.item p).grant = 1) ∧
    (∃ (p : Pool) (s : State), s.station.powered = true ∧ (s.station.item p).level.isSome = true ∧
     (s.station.item p).lastSent = some (s.station.item p).own ∧ (s.station.item p).inUse ≤ (s.station.item p).grant ∧
     p = .gas ∧ (s.station.item p).posted = ⟨1, .pour⟩ ∧ (s.station.item p).own = ⟨1, .pour⟩ ∧
     s.station.press.primReq = true ∧ s.station.stage = some .priming) :=
  ⟨⟨.gas, now pooled, by decide +kernel⟩,
    ⟨.heat, now bay, by decide +kernel⟩,
    ⟨100, now bay, by decide +kernel⟩,
    ⟨100, now { pooled with pools.overdrawHold := true }, by decide +kernel⟩,
    ⟨.gas, now carbWaits, by decide +kernel⟩,
    ⟨.gas, now primeWaits, by decide +kernel⟩⟩

/-- Premises of `Obligations.OverdrawHoldsHeat`. -/
theorem test_overdraw_holds_heat_premises :
    (∃ (m : Nat) (s : State), s.station.powered = true ∧ m < 16) ∧
    (∃ (m : Nat) (s : State), s.station.powered = true ∧ 16 ≤ m ∧ s.station.sense.overdraw = false) ∧
    (∃ (m : Nat) (s : State), s.station.powered = true ∧ 16 ≤ m ∧ s.station.sense.overdraw = true) ∧
    (∃ (m : Nat) (s : State), ∃ n, s.station.powered = true ∧ s.station.pools.backoffMs = some n ∧
     s.station.inLockout = false ∧ s.station.holdFor .idConflict = false ∧ s.station.pools.items.heat.inUse = 0 ∧
     s.station.pools.items.heat.level = none ∧ s.station.isoApplies = false ∧ s.station.pools.items.heat.grant = 8) ∧
    (∃ (m : Nat) (s : State), ∃ n, s.station.powered = true ∧ s.station.pools.backoffMs = some n ∧
     s.station.inLockout = false ∧ s.station.holdFor .idConflict = false ∧ s.station.pools.items.heat.inUse = 0 ∧
     s.station.pools.items.heat.level = none ∧ s.station.isoApplies = true) :=
  ⟨⟨15, now bay, by decide +kernel⟩,
    ⟨16, now pooled, by decide +kernel⟩,
    ⟨16, now { pooled with sense.overdraw := true }, by decide +kernel⟩,
    ⟨0, now offHeat, 0, by decide +kernel⟩,
    ⟨0, now { offHeat with pools.isolated := true }, 0, by decide +kernel⟩⟩

/-- Premises of `Obligations.NoticesKeepTheirPlacesAndTheViewAges`. -/
theorem test_notices_keep_their_places_and_the_view_ages_premises :
    (∃ s : State, s.station.powered = true ∧ (s.station.start.phase = .window ∨ s.station.start.phase = .running) ∧
     s.station.start.phase = .window) ∧
    (∃ s : State, s.station.powered = true ∧ (s.station.start.phase = .window ∨ s.station.start.phase = .running) ∧
     s.station.pools.peers.map (fun e => (e.age, e.state)) = [(1, .present), (3, .silent)]) ∧
    (∃ s : State, s.station.powered = true ∧ (s.station.start.phase = .window ∨ s.station.start.phase = .running) ∧
     s.station.start.phase = .window ∧ s.station.start.presAgain = true ∧ s.station.start.boundaries = 2) ∧
    (∃ s : State, s.station.powered = true ∧ (s.station.start.phase = .window ∨ s.station.start.phase = .running) ∧
     s.station.start.presAgain = true ∧ s.station.start.boundaries = 3) ∧
    (∃ (e : Peer) (s : State), s.station.powered = true ∧ s.station.start.phase = .running ∧
     s.station.peer? s.station.partnerId = some e ∧ e.state = .silent ∧ e.age = 3 ∧ s.station.start.role = .lead ∧
     s.station.prog.pair = .leadPaired) ∧
    (∃ (e : Peer) (s : State), s.station.powered = true ∧ s.station.start.phase = .running ∧
     s.station.peer? s.station.partnerId = some e ∧ e.state = .silent ∧ e.age = 3 ∧ s.station.start.role = .follower ∧
     s.station.prog.pair = .following ∧ s.station.prog.vessel = false) ∧
    (∃ s : State, s.station.start.phase = .window ∧ s.station.start.presSent = false) ∧
    (∃ (c : ClaimNotice) (k : Nat) (s : State), s.station.powered = true ∧ s.station.start.phase = .running ∧
     k = (match s.station.link.seq with | none => 0 | some n => if n = 255 then 0 else n + 1) ∧
     c.claims = ⟨s.station.pools.items.heat.own, s.station.pools.items.chill.own, s.station.pools.items.gas.own⟩ ∧
     c.seq = k ∧ c.role = s.station.roleCarried ∧ c.temp = s.station.tAvg ∧ c.setpoint = s.station.setpoint ∧
     c.probeOk = (s.station.sense.beer.state == .ok) ∧
     (c.driveChill, c.driveHeat) = (if s.station.prog.pair = .leadPaired then (s.station.prog.driveC,
       s.station.prog.driveH) else (0, 0)) ∧
     s.station.link.mute = false) ∧
    (∃ (c : ClaimNotice) (k : Nat) (s : State), s.station.powered = true ∧ s.station.start.phase = .running ∧
     k = (match s.station.link.seq with | none => 0 | some n => if n = 255 then 0 else n + 1) ∧
     c.claims = ⟨s.station.pools.items.heat.own, s.station.pools.items.chill.own, s.station.pools.items.gas.own⟩ ∧
     c.seq = k ∧ c.role = s.station.roleCarried ∧ c.temp = s.station.tAvg ∧ c.setpoint = s.station.setpoint ∧
     c.probeOk = (s.station.sense.beer.state == .ok) ∧
     (c.driveChill, c.driveHeat) = (if s.station.prog.pair = .leadPaired then (s.station.prog.driveC,
       s.station.prog.driveH) else (0, 0)) ∧
     s.station.link.mute = true) ∧
    (∃ (c : ClaimNotice) (k : Nat) (s : State), s.station.powered = true ∧ s.station.start.phase = .running ∧
     k = (match s.station.link.seq with | none => 0 | some n => if n = 255 then 0 else n + 1) ∧
     c.claims = ⟨s.station.pools.items.heat.own, s.station.pools.items.chill.own, s.station.pools.items.gas.own⟩ ∧
     c.seq = k ∧ c.role = s.station.roleCarried ∧ c.temp = s.station.tAvg ∧ c.setpoint = s.station.setpoint ∧
     c.probeOk = (s.station.sense.beer.state == .ok) ∧
     (c.driveChill, c.driveHeat) = (if s.station.prog.pair = .leadPaired then (s.station.prog.driveC,
       s.station.prog.driveH) else (0, 0)) ∧
     s.station.link.mute = false ∧ s.station.link.spacingMs.isSome = true ∧ s.station.link.extraHeld = true ∧
     s.station.extraStands = true) ∧
    (∃ (c : ClaimNotice) (k : Nat) (s : State), s.station.powered = true ∧ s.station.start.phase = .running ∧
     k = (match s.station.link.seq with | none => 0 | some n => if n = 255 then 0 else n + 1) ∧
     c.claims = ⟨s.station.pools.items.heat.own, s.station.pools.items.chill.own, s.station.pools.items.gas.own⟩ ∧
     c.seq = k ∧ c.role = s.station.roleCarried ∧ c.temp = s.station.tAvg ∧ c.setpoint = s.station.setpoint ∧
     c.probeOk = (s.station.sense.beer.state == .ok) ∧
     (c.driveChill, c.driveHeat) = (if s.station.prog.pair = .leadPaired then (s.station.prog.driveC,
       s.station.prog.driveH) else (0, 0)) ∧
     s.station.link.spacingMs.isSome = true ∧ (s.station.link.extraHeld = false ∨ s.station.extraStands = false) ∧
     s.station.link.extraHeld = false) :=
  ⟨⟨now { inWindow .single with start.boundaries := 3 }, by decide +kernel⟩,
    ⟨now { bay with pools.peers := [{ peer 2 .single with age := 1 }, { peer 5 .lead with age := 3, state :=
      .silent }] },
  by decide +kernel⟩,
    ⟨now { inWindow .single with start.boundaries := 2, start.presAgain := true }, by decide +kernel⟩,
    ⟨now { inWindow .single with start.boundaries := 3, start.presAgain := true }, by decide +kernel⟩,
    ⟨{ peer 4 .follower with age := 3, state := .silent },
  now { paired with pools.peers := [{ peer 4 .follower with age := 3, state := .silent }] }, by decide +kernel⟩,
    ⟨{ peer 2 .lead with age := 3, state := .silent },
  now { follower with pools.peers := [{ peer 2 .lead with age := 3, state := .silent }] }, by decide +kernel⟩,
    ⟨now (inWindow .single), by decide +kernel⟩,
    ⟨{ noted with seq := 0 }, 0, now pooled, by decide +kernel⟩,
    ⟨noted, 0, now { pooled with link.mute := true }, by decide +kernel⟩,
    ⟨noted, 0, now asking, by decide +kernel⟩,
    ⟨noted, 0, now { asking with link.extraHeld := false }, by decide +kernel⟩⟩

/-- Premises of `Obligations.WindowEndSettlesTheStart`. -/
theorem test_window_end_settles_the_start_premises :
    (∃ s : State, s.station.start.phase = .window ∧ s.station.start.boundaries = 4 ∧
     s.station.prog.leadHeard = false ∧ s.station.start.role = .single ∧ s.station.exc.state = .normal) ∧
    (∃ s : State, s.station.start.phase = .window ∧ s.station.start.boundaries = 4 ∧
     s.station.prog.leadHeard = false ∧ s.station.start.role = .lead ∧ s.station.exc.state = .lockout ∧
     s.station.start.lowest.gas < s.station.start.setup.budget.gas) ∧
    (∃ s : State, s.station.start.phase = .window ∧ s.station.start.boundaries = 4 ∧
     s.station.prog.leadHeard = false ∧ s.station.start.role = .lead ∧
     s.station.peer? (s.station.start.id + 1) = some (peer 4 .follower)) ∧
    (∃ s : State, s.station.start.phase = .window ∧ s.station.start.boundaries = 4 ∧
     s.station.prog.leadHeard = false ∧ s.station.start.role = .lead ∧
     s.station.peer? (s.station.start.id + 1) = some (peer 4 .single)) ∧
    (∃ s : State, s.station.start.phase = .window ∧ s.station.start.boundaries = 4 ∧
     s.station.prog.leadHeard = false ∧ s.station.start.role = .follower ∧
     s.station.peer? (s.station.start.id - 1) = some (peer 2 .lead)) ∧
    (∃ s : State, s.station.start.phase = .window ∧ s.station.start.boundaries = 4 ∧
     s.station.prog.leadHeard = false ∧ s.station.start.role = .follower ∧
     s.station.peer? (s.station.start.id - 1) = some (peer 2 .single)) ∧
    (∃ s : State, s.station.start.phase = .window ∧ s.station.start.boundaries = 4 ∧
     s.station.prog.leadHeard = false ∧ s.station.start.role = .follower ∧
     s.station.peer? (s.station.start.id - 1) = none) :=
  ⟨⟨now (inWindow .single), by decide +kernel⟩,
    ⟨now { inWindow .lead with exc.state := .lockout, exc.kind := some .idConflict, start.lowest.gas := 1 },
  by decide +kernel⟩,
    ⟨now { inWindow .lead with pools.peers := [peer 4 .follower] }, by decide +kernel⟩,
    ⟨now { inWindow .lead with pools.peers := [peer 4 .single] }, by decide +kernel⟩,
    ⟨now { inWindow .follower with pools.peers := [peer 2 .lead] }, by decide +kernel⟩,
    ⟨now { inWindow .follower with pools.peers := [peer 2 .single] }, by decide +kernel⟩,
    ⟨now (inWindow .follower), by decide +kernel⟩⟩

/-- Premises of `Obligations.KegRemovalIsAFaultOrAClose`. -/
theorem test_keg_removal_is_a_fault_or_a_close_premises :
    (∃ (n : Nat) (s : State), s.station.powered = true ∧ s.station.onePour ∧ n < 16) ∧
    (∃ (n : Nat) (s : State), ∃ b, s.station.powered = true ∧ s.station.onePour ∧ s.station.keg.batch = some b ∧
     16 ≤ n ∧ s.station.sense.keg = true ∧ b.phase ≠ .none ∧
     (b.phase ≠ .serve ∨ (b.kegEmpty = false ∧ b.fill < 20 * b.remaining)) ∧ s.station.exc.state = .normal ∧
     s.station.exc.h = false ∧ s.station.pour.active = none) ∧
    (∃ (n : Nat) (s : State), ∃ b, s.station.powered = true ∧ s.station.onePour ∧ s.station.keg.batch = some b ∧
     16 ≤ n ∧ s.station.sense.keg = true ∧ b.phase ≠ .none ∧
     (b.phase ≠ .serve ∨ (b.kegEmpty = false ∧ b.fill < 20 * b.remaining)) ∧ s.station.exc.state = .normal ∧
     s.station.exc.h = false ∧ b.phase = .serve ∧ s.station.pour.active = some active) ∧
    (∃ (n : Nat) (s : State), ∃ b, s.station.powered = true ∧ s.station.onePour ∧ s.station.keg.batch = some b ∧
     16 ≤ n ∧ s.station.sense.keg = true ∧ b.phase = .serve ∧ (b.kegEmpty = true ∨ 20 * b.remaining ≤ b.fill) ∧
     s.station.calm ∧ s.station.pour.active = none) ∧
    (∃ (n : Nat) (s : State), ∃ b, s.station.powered = true ∧ s.station.onePour ∧ s.station.keg.batch = some b ∧
     16 ≤ n ∧ s.station.sense.keg = true ∧ b.phase = .serve ∧ (b.kegEmpty = true ∨ 20 * b.remaining ≤ b.fill) ∧
     s.station.calm ∧ s.station.pour.active = some active ∧ s.station.queued = []) ∧
    (∃ (n : Nat) (s : State), s.station.powered = true ∧ s.station.onePour ∧ 16 ≤ n ∧ s.station.keg.batch = none ∧
     s.station.health.test = none ∧ s.station.pour.queue = [] ∧ s.station.sense.keg = true ∧
     s.station.sense.ackKeg = true) ∧
    (∃ (n : Nat) (s : State), s.station.powered = true ∧ s.station.onePour ∧ 16 ≤ n ∧ s.station.keg.batch = none ∧
     s.station.health.test = none ∧ s.station.pour.queue = [] ∧ s.station.sense.keg = true ∧
     s.station.sense.ackKeg = false) ∧
    (∃ (n : Nat) (s : State), s.station.powered = true ∧ s.station.onePour ∧ 16 ≤ n ∧ s.station.keg.batch = none ∧
     s.station.health.test = none ∧ s.station.pour.queue = [] ∧ s.station.sense.keg = false ∧
     s.station.sense.ackKeg = false) ∧
    (∃ (n : Nat) (s : State), s.station.powered = true ∧ s.station.onePour ∧ 16 ≤ n ∧ s.station.keg.batch = none ∧
     s.station.health.test = none ∧ s.station.pour.queue = [] ∧ s.station.sense.keg = false ∧
     s.station.sense.ackKeg = true) :=
  ⟨⟨15, now bay, by decide +kernel⟩,
    ⟨16, now (withBatch (onStep crashStep)), onStep crashStep, by decide +kernel⟩,
    ⟨16, now { pouring with keg.batch := some { beer with remaining := 951 } }, { beer with remaining := 951 },
  by decide +kernel⟩,
    ⟨16, now (withBatch { beer with remaining := 950 }), { beer with remaining := 950 }, by decide +kernel⟩,
    ⟨16, now { pouring with pour.queue := [glass], keg.batch := some { beer with kegEmpty := true } },
  { beer with kegEmpty := true }, by decide +kernel⟩,
    ⟨16, now noBatch, by decide +kernel⟩,
    ⟨16, now { noBatch with sense.ackKeg := false }, by decide +kernel⟩,
    ⟨16, now { noBatch with sense.keg := false, sense.ackKeg := false }, by decide +kernel⟩,
    ⟨16, now { noBatch with sense.keg := false }, by decide +kernel⟩⟩

/-- Premises of `Obligations.SecondFaultsLockEverythingOff`. -/
theorem test_second_faults_lock_everything_off_premises :
    (∃ (n : BitVec 3) (p : List Byte) (k : FaultKind) (s : State), s.station.powered = true ∧
     s.station.link.idleSeen = true ∧ s.station.start.id = n.toNat ∧ s.station.exc.state = .safeHold ∧
     s.station.exc.kind = some k ∧ k ≠ .idConflict ∧ s.station.tapSafe ∧ s.station.start.role ≠ .follower) ∧
    (∃ (n : BitVec 3) (p : List Byte) (s : State) (c : Instr), s.station.powered = true ∧
     s.station.link.idleSeen = true ∧ s.station.start.id = n.toNat ∧
     (c = .claimNoticeReceived n p ∨ c = .presenceNoticeReceived n p ∨ c = .excursionNoticeReceived n p ∨ ∃ bits f,
       receiveBits bits = some f ∧ f.sender.toNat = n.toNat ∧ c = .frameReceived bits) ∧
     s.station.exc.state = .normal ∧ s.station.exc.h = false) ∧
    (∃ (n : BitVec 3) (p : List Byte) (s : State) (c : Instr), s.station.powered = true ∧
     s.station.link.idleSeen = true ∧ s.station.start.id = n.toNat ∧
     (c = .claimNoticeReceived n p ∨ c = .presenceNoticeReceived n p ∨ c = .excursionNoticeReceived n p ∨ ∃ bits f,
       receiveBits bits = some f ∧ f.sender.toNat = n.toNat ∧ c = .frameReceived bits) ∧
     s.station.exc.state = .normal ∧ s.station.exc.h = true) ∧
    (∃ (n : BitVec 3) (p : List Byte) (s : State) (c : Instr), s.station.powered = true ∧
     s.station.link.idleSeen = true ∧ s.station.start.id = n.toNat ∧
     (c = .claimNoticeReceived n p ∨ c = .presenceNoticeReceived n p ∨ c = .excursionNoticeReceived n p ∨ ∃ bits f,
       receiveBits bits = some f ∧ f.sender.toNat = n.toNat ∧ c = .frameReceived bits) ∧
     s.station.exc.state = .lockout) ∧
    (∃ (n : BitVec 3) (p : List Byte) (s : State) (c : Instr), s.station.powered = true ∧
     s.station.link.idleSeen = true ∧ s.station.start.id = n.toNat ∧
     (c = .claimNoticeReceived n p ∨ c = .presenceNoticeReceived n p ∨ c = .excursionNoticeReceived n p ∨ ∃ bits f,
       receiveBits bits = some f ∧ f.sender.toNat = n.toNat ∧ c = .frameReceived bits) ∧
     s.station.exc.state = .safeHold ∧ s.station.exc.kind = some .idConflict) ∧
    (∃ (v : Int) (s : State), s.station.powered = true ∧ s.station.sense.sampling = true ∧
     s.station.start.role ≠ .follower ∧ s.station.exc.state = .safeHold ∧ s.station.exc.kind = some .overpressure ∧
     s.station.exc.overpressure = false ∧ s.station.start.setup.pr + 30 < v ∧ v ≤ 400 ∧ s.station.tapSafe ∧
     v = s.station.start.setup.pr + 31) ∧
    (∃ (n : Nat) (s : State), s.station.powered = true ∧ s.station.exc.state = .lockout ∧
     s.station.sense.beer.state = .holding ∧ s.station.sense.beer.holdMs = some n) ∧
    (∃ (n : Nat) (s : State), s.station.powered = true ∧ s.station.exc.state = .lockout ∧
     s.station.press.gasTimer = some n) :=
  ⟨⟨3, [], .leak, now (held .leak), by decide +kernel⟩,
    ⟨3, [], now bay, .claimNoticeReceived 3 [], by decide +kernel, by decide +kernel, by decide +kernel, .inl rfl,
  by decide +kernel⟩,
    ⟨3, [], now (inWindow .single), .presenceNoticeReceived 3 [], by decide +kernel, by decide +kernel,
  by decide +kernel, .inr (.inl rfl), by decide +kernel⟩,
    ⟨3, [], now locked, .frameReceived (Frame.bits ⟨1, 3, 15, 5, []⟩), by decide +kernel, by decide +kernel,
  by decide +kernel, .inr (.inr (.inr ⟨_, ⟨1, 3, 15, 5, []⟩, by decide +kernel, rfl, rfl⟩)), by decide +kernel⟩,
    ⟨3, [], now (held .idConflict), .claimNoticeReceived 3 [], by decide +kernel, by decide +kernel, by decide +kernel,
  .inl rfl, by decide +kernel⟩,
    ⟨271, now (held .overpressure), by decide +kernel⟩,
    ⟨30000, now { locked with sense.beer := { state := .holding, holdMs := some 30000 } }, by decide +kernel⟩,
    ⟨30, now { locked with press.gasTimer := some 30 }, by decide +kernel⟩⟩

/-- Premises of `Obligations.TemperatureAndGasTimersAreChecked`. -/
theorem test_temperature_and_gas_timers_are_checked_premises :
    (∃ (x sp : Int) (s : State), s.station.powered = true ∧ s.station.tAvg = some x ∧ s.station.setpoint = some sp ∧
     (s.station.start.role ≠ .follower ∨ s.station.prog.pair = .orphan) ∧ s.station.exc.state = .normal ∧
     s.station.exc.h = false ∧ 0 < s.station.exc.overS ∧ sp + 40 < x ∧ -25 ≤ x ∧ s.station.exc.overtemp = false ∧
     s.station.exc.undertemp = false) ∧
    (∃ (x sp : Int) (s : State), s.station.powered = true ∧ s.station.tAvg = some x ∧ s.station.setpoint = some sp ∧
     (s.station.start.role ≠ .follower ∨ s.station.prog.pair = .orphan) ∧ s.station.exc.state = .normal ∧
     s.station.exc.h = false ∧ 0 < s.station.exc.overS ∧ sp + 40 < x ∧ -25 ≤ x ∧ s.station.exc.overtemp = false ∧
     s.station.exc.undertemp = false ∧ s.station.start.role = .follower) ∧
    (∃ (x sp : Int) (s : State), s.station.powered = true ∧ s.station.tAvg = some x ∧ s.station.setpoint = some sp ∧
     (s.station.start.role ≠ .follower ∨ s.station.prog.pair = .orphan) ∧ s.station.exc.state = .normal ∧
     s.station.exc.h = false ∧ 0 < s.station.exc.underS ∧ x < -25 ∧ x ≤ sp + 40 ∧ s.station.exc.overtemp = false ∧
     s.station.exc.undertemp = false) ∧
    (∃ (n : Nat) (s : State), s.station.powered = true ∧ s.station.press.gasTimer = some n ∧
     s.station.press.gasRef + 2 ≤ s.station.sense.p) ∧
    (∃ (n : Nat) (s : State), s.station.powered = true ∧ s.station.press.gasTimer = some n ∧
     s.station.sense.p < s.station.press.gasRef + 2 ∧ s.station.exc.state = .normal ∧ s.station.exc.h = false) :=
  ⟨⟨81, 40, now (warm 81 { bay with exc.overS := 600 }), by decide +kernel⟩,
    ⟨81, 40, now (warm 81 { orphan with exc.overS := 1 }), by decide +kernel⟩,
    ⟨-26, 40, now (warm (-26) { bay with exc.underS := 60 }), by decide +kernel⟩,
    ⟨30, now { bay with press.gasTimer := some 30, press.gasRef := 98 }, by decide +kernel⟩,
    ⟨30, now { bay with press.gasTimer := some 30, press.gasRef := 99 }, by decide +kernel⟩⟩

/-- Premises of `Obligations.ControlPeriodPostsAndStartsTheCycle`. -/
theorem test_control_period_posts_and_starts_the_cycle_premises :
    (∃ (x sp : Int) (cap c0 h0 : Nat) (slope : Bool) (s : State), s.station.powered = true ∧
     s.station.prog.cycleOn = true ∧ s.station.prog.pair ≠ .leadPaired ∧ s.station.prog.pair ≠ .following ∧
     s.station.prog.vessel = false ∧ s.station.prog.leadHeard = false ∧ s.station.followHold = false ∧
     s.station.tAvg = some x ∧ s.station.setpoint = some sp ∧
     cap =
       (match s.station.jacketT with
         | none => 4
         | some j => if j < -10 then 2 else if s.station.sense.jacket.state = .failed then 4 else 8) ∧
     c0 = min cap (if (s.station.start.setup.db : Int) < x - sp then min 8 (((x - sp - s.station.start.setup.db).toNat + 1) / 2) else if 0 < x - sp ∧ 0 < s.station.prog.bayC then 1 else 0) ∧
     h0 = (if x - sp < -(s.station.start.setup.db : Int) then min s.station.start.setup.hmax ((s.station.start.setup.hmax * (sp - x - s.station.start.setup.db).toNat + 9) / 10) else if x - sp < 0 ∧ 0 < s.station.prog.bayH ∧ 1 ≤ s.station.start.setup.hmax then 1 else 0) ∧
     slope = (s.station.keg.batch.any fun b => b.step.kind != .hold && !b.programEnd) ∧
       s.station.jacketT = some (-11)) ∧
    (∃ (e : Peer) (b : Batch) (x : Int) (s : State), s.station.powered = true ∧ s.station.prog.cycleOn = true ∧
     s.station.start.role = .lead ∧ s.station.prog.pair = .leadPaired ∧ s.station.prog.leadHeard = false ∧
     s.station.peer? (s.station.start.id + 1) = some e ∧ e.state ≠ .absent ∧ s.station.keg.batch = some b ∧
     s.station.exc.state = .normal ∧ (∀ j, s.station.jacketT = some j → -10 ≤ j) ∧ s.station.jacketT.isSome = true ∧
     s.station.sense.jacket.state = .ok ∧
     some x =
       (match s.station.tAvg, (if e.state = .present ∧ e.probeOk = true then e.temp else none) with
         | some m, some n => some ((m + n).tdiv 2)
         | some m, none => some m
         | none, n => n)) ∧
    (∃ s : State, s.station.powered = true ∧ s.station.prog.cycleOn = true ∧ s.station.start.role = .follower ∧
     s.station.prog.vessel = false ∧
     ((s.station.prog.pair = .following ∧ s.station.prog.leadHeard = false) ∨ (s.station.prog.pair = .orphan ∧
       s.station.prog.leadHeard = true)) ∧
     s.station.prog.pair = .following) ∧
    (∃ s : State, s.station.powered = true ∧ s.station.prog.cycleOn = true ∧ s.station.start.role = .follower ∧
     s.station.prog.vessel = false ∧
     ((s.station.prog.pair = .following ∧ s.station.prog.leadHeard = false) ∨ (s.station.prog.pair = .orphan ∧
       s.station.prog.leadHeard = true)) ∧
     s.station.prog.pair = .orphan) :=
  ⟨⟨60, 40, _, _, _, _, now (jacketAt (-11)), by decide +kernel, by decide +kernel, by decide +kernel,
  by decide +kernel, by decide +kernel, by decide +kernel, by decide +kernel, by decide +kernel, by decide +kernel,
  rfl, rfl, rfl, rfl, by decide +kernel⟩,
    ⟨{ peer 4 .follower with temp := some 62, probeOk := true }, beer, 61, now paired, by decide +kernel,
  by decide +kernel, by decide +kernel, by decide +kernel, by decide +kernel, by decide +kernel, by decide +kernel,
  by decide +kernel, by decide +kernel, (fun _ h => by cases h; decide +kernel), by decide +kernel⟩,
    ⟨now { follower with prog.cycleOn := true }, by decide +kernel⟩,
    ⟨now { orphan with prog.cycleOn := true, prog.leadHeard := true }, by decide +kernel⟩⟩

/-- Premises of `Obligations.CycleEventsMoveTheOutputs`. -/
theorem test_cycle_events_move_the_outputs_premises :
    (∃ (m : Nat) (s : State), s.station.powered = true ∧ m < 16) ∧
    (∃ (m : Nat) (s : State), s.station.powered = true ∧ s.station.prog.glycol = true) ∧
    (∃ (m : Nat) (s : State), s.station.powered = true ∧ s.station.prog.heater = true) ∧
    (∃ (m : Nat) (s : State), s.station.powered = true ∧ 16 ≤ m ∧ s.station.sense.chillRdy = false) ∧
    (∃ (m : Nat) (s : State), s.station.powered = true ∧ 16 ≤ m ∧ s.station.sense.chillRdy = true) ∧
    (∃ (m : Nat) (s : State), ∃ n, s.station.powered = true ∧ s.station.prog.starveMs = some n ∧
     s.station.pools.items.chill.posted.demand = 0) ∧
    (∃ (m : Nat) (s : State), ∃ n, s.station.powered = true ∧ s.station.prog.starveMs = some n ∧
     0 < s.station.pools.items.chill.posted.demand) :=
  ⟨⟨15, now bay, by decide +kernel⟩,
    ⟨0, now { bay with prog.glycol := true }, by decide +kernel⟩,
    ⟨0, now { bay with prog.heater := true }, by decide +kernel⟩,
    ⟨16, now { bay with sense.chillRdy := false }, by decide +kernel⟩,
    ⟨16, now bay, by decide +kernel⟩,
    ⟨0, now { bay with prog.starveMs := some 1200000 }, 1200000, by decide +kernel⟩,
    ⟨0, now { pooled with prog.starveMs := some 1200000 }, 1200000, by decide +kernel⟩⟩

/-- Premises of `Obligations.MinutesRunTheSteps`. -/
theorem test_minutes_run_the_steps_premises :
    (∃ (b b' : Batch) (s : State), s.station.powered = true ∧ s.station.keg.batch = some b ∧ s.station.exc.h = false ∧
     s.station.calm ∧ b.run = true ∧ b' = { b with stepMin := min 65535 (b.stepMin + 1) } ∧
     (b.programEnd = true ∨ ((b.step.kind ≠ .hold ∨ b.step.threshold = none) ∧
       b.step.duration.all (fun d => decide (b'.stepMin < d)))) ∧
     b.programEnd = true ∧ b.stepMin = 65535) ∧
    (∃ (b b' : Batch) (s : State), s.station.powered = true ∧ s.station.keg.batch = some b ∧ s.station.exc.h = false ∧
     s.station.calm ∧ b.run = true ∧ b' = { b with stepMin := min 65535 (b.stepMin + 1) } ∧
     (b.programEnd = true ∨ ((b.step.kind ≠ .hold ∨ b.step.threshold = none) ∧
       b.step.duration.all (fun d => decide (b'.stepMin < d)))) ∧
     b.programEnd = false ∧ b.step.duration = some 60 ∧ b.stepMin = 58) ∧
    (∃ (b b' : Batch) (s : State), s.station.powered = true ∧ s.station.keg.batch = some b ∧ s.station.exc.h = false ∧
     s.station.calm ∧ b.run = true ∧ b' = { b with stepMin := min 65535 (b.stepMin + 1) } ∧
     (b.programEnd = true ∨ ((b.step.kind ≠ .hold ∨ b.step.threshold = none) ∧
       b.step.duration.all (fun d => decide (b'.stepMin < d)))) ∧
     b.step.kind = .ramp ∧ b.step.duration = some 60) ∧
    (∃ (b b' : Batch) (s : State), ∃ d, s.station.powered = true ∧ s.station.keg.batch = some b ∧
     s.station.exc.h = false ∧ s.station.calm ∧ b.run = true ∧ b' = { b with stepMin := min 65535 (b.stepMin + 1) } ∧
     b.step.duration = some d ∧ b.programEnd = false ∧ (b.step.kind ≠ .hold ∨ b.step.threshold = none) ∧
     d ≤ b'.stepMin ∧ b.stepIdx + 1 < b.profile.length ∧ b.step.kind = .hold) ∧
    (∃ (b b' : Batch) (s : State), ∃ d, s.station.powered = true ∧ s.station.keg.batch = some b ∧
     s.station.exc.h = false ∧ s.station.calm ∧ b.run = true ∧ b' = { b with stepMin := min 65535 (b.stepMin + 1) } ∧
     b.step.duration = some d ∧ b.programEnd = false ∧ (b.step.kind ≠ .hold ∨ b.step.threshold = none) ∧
     d ≤ b'.stepMin ∧ b.stepIdx + 1 < b.profile.length ∧ b.step.kind = .ramp) ∧
    (∃ (b b' : Batch) (s : State), ∃ d, s.station.powered = true ∧ s.station.keg.batch = some b ∧
     s.station.exc.h = false ∧ s.station.calm ∧ b.run = true ∧ b' = { b with stepMin := min 65535 (b.stepMin + 1) } ∧
     b.step.duration = some d ∧ b.programEnd = false ∧ (b.step.kind ≠ .hold ∨ b.step.threshold = none) ∧
     d ≤ b'.stepMin ∧ b.stepIdx + 1 < b.profile.length ∧ b.step.kind = .crash) ∧
    (∃ (b b' : Batch) (s : State), ∃ d, s.station.powered = true ∧ s.station.keg.batch = some b ∧
     s.station.exc.h = false ∧ s.station.calm ∧ b.run = true ∧ b' = { b with stepMin := min 65535 (b.stepMin + 1) } ∧
     b.step.duration = some d ∧ b.programEnd = false ∧ (b.step.kind ≠ .hold ∨ b.step.threshold = none) ∧
     d ≤ b'.stepMin ∧ b.profile.length ≤ b.stepIdx + 1) ∧
    (∃ (b b' : Batch) (s : State), ∃ th, s.station.powered = true ∧ s.station.keg.batch = some b ∧
     s.station.exc.h = false ∧ s.station.calm ∧ b.run = true ∧ b' = { b with stepMin := min 65535 (b.stepMin + 1) } ∧
     b.step.threshold = some th ∧ b.programEnd = false ∧ b.step.kind = .hold ∧
     ((b.step.duration = none ∨ b.step.duration.getD 0 ≤ b'.stepMin) ∧ 12 ≤ s.station.press.log.length ∧
       (∀ r ∈ s.station.press.log.drop (s.station.press.log.length - 12), r.activity.any (decide <| · < th) = true)) ∧
     b.stepIdx + 1 < b.profile.length) ∧
    (∃ (b b' : Batch) (s : State), ∃ th, s.station.powered = true ∧ s.station.keg.batch = some b ∧
     s.station.exc.h = false ∧ s.station.calm ∧ b.run = true ∧ b' = { b with stepMin := min 65535 (b.stepMin + 1) } ∧
     b.step.threshold = some th ∧ b.programEnd = false ∧ b.step.kind = .hold ∧
     ((b.step.duration = none ∨ b.step.duration.getD 0 ≤ b'.stepMin) ∧ 12 ≤ s.station.press.log.length ∧
       (∀ r ∈ s.station.press.log.drop (s.station.press.log.length - 12), r.activity.any (decide <| · < th) = true)) ∧
     b.profile.length ≤ b.stepIdx + 1) ∧
    (∃ (b b' : Batch) (s : State), ∃ th, s.station.powered = true ∧ s.station.keg.batch = some b ∧
     s.station.exc.h = false ∧ s.station.calm ∧ b.run = true ∧ b' = { b with stepMin := min 65535 (b.stepMin + 1) } ∧
     b.step.threshold = some th ∧ b.programEnd = false ∧ b.step.kind = .hold ∧
     (¬((b.step.duration = none ∨ b.step.duration.getD 0 ≤ b'.stepMin) ∧ 12 ≤ s.station.press.log.length ∧
       (∀ r ∈ s.station.press.log.drop (s.station.press.log.length - 12), r.activity.any (decide <| · < th) = true)))) ∧
    (∃ (b b' : Batch) (s : State), s.station.powered = true ∧ s.station.keg.batch = some b ∧ s.station.exc.h = false ∧
     s.station.calm ∧ b.run = true ∧ b' = { b with stepMin := min 65535 (b.stepMin + 1) } ∧ b.programEnd = false ∧
     b.step.kind = .crash ∧ 0 < s.station.prog.inBandS ∧ b.stepIdx + 1 < b.profile.length) ∧
    (∃ (b b' : Batch) (s : State), s.station.powered = true ∧ s.station.keg.batch = some b ∧ s.station.exc.h = false ∧
     s.station.calm ∧ b.run = true ∧ b' = { b with stepMin := min 65535 (b.stepMin + 1) } ∧ b.programEnd = false ∧
     b.step.kind = .crash ∧ 0 < s.station.prog.inBandS ∧ b.stepIdx + 1 < b.profile.length ∧
     s.station.prog.inBandS = 10) ∧
    (∃ (b b' : Batch) (s : State), s.station.powered = true ∧ s.station.keg.batch = some b ∧ s.station.exc.h = false ∧
     s.station.calm ∧ b.run = true ∧ b' = { b with stepMin := min 65535 (b.stepMin + 1) } ∧ b.programEnd = false ∧
     b.step.kind = .crash ∧ 0 < s.station.prog.inBandS ∧ b.profile.length ≤ b.stepIdx + 1) :=
  ⟨⟨{ beer with programEnd := true, stepMin := 65535 }, _,
  now (withBatch { beer with programEnd := true, stepMin := 65535 }), by decide +kernel, by decide +kernel,
  by decide +kernel, by decide +kernel, by decide +kernel, rfl, by decide +kernel⟩,
    ⟨{ beer with stepMin := 58 }, _, now (withBatch { beer with stepMin := 58 }), by decide +kernel, by decide +kernel,
  by decide +kernel, by decide +kernel, by decide +kernel, rfl, by decide +kernel⟩,
    ⟨{ onStep rampStep with stepMin := 58 }, _, now (withBatch { onStep rampStep with stepMin := 58 }),
  by decide +kernel, by decide +kernel, by decide +kernel, by decide +kernel, by decide +kernel, rfl,
  by decide +kernel⟩,
    ⟨{ beer with stepMin := 59 }, _, now (withBatch { beer with stepMin := 59 }), 60, by decide +kernel,
  by decide +kernel, by decide +kernel, by decide +kernel, by decide +kernel, rfl, by decide +kernel⟩,
    ⟨{ onStep rampStep with stepMin := 59 }, _, now (withBatch { onStep rampStep with stepMin := 59 }), 60,
  by decide +kernel, by decide +kernel, by decide +kernel, by decide +kernel, by decide +kernel, rfl,
  by decide +kernel⟩,
    ⟨{ onStep { crashStep with duration := some 60 } with stepMin := 59 }, _,
  now (withBatch { onStep { crashStep with duration := some 60 } with stepMin := 59 }), 60, by decide +kernel,
  by decide +kernel, by decide +kernel, by decide +kernel, by decide +kernel, rfl, by decide +kernel⟩,
    ⟨{ beer with stepMin := 59, profile := [carbStep] }, _,
  now (withBatch { beer with stepMin := 59, profile := [carbStep] }), 60, by decide +kernel, by decide +kernel,
  by decide +kernel, by decide +kernel, by decide +kernel, rfl, by decide +kernel⟩,
    ⟨onStep quietStep, _, now (quiet 49), 50, by decide +kernel, by decide +kernel, by decide +kernel,
  by decide +kernel, by decide +kernel, rfl, by decide +kernel, by decide +kernel, by decide +kernel,
  by decide +kernel, by decide +kernel⟩,
    ⟨{ onStep quietStep with profile := [quietStep] }, _,
  now { quiet 49 with keg.batch := some { onStep quietStep with profile := [quietStep] } }, 50, by decide +kernel,
  by decide +kernel, by decide +kernel, by decide +kernel, by decide +kernel, rfl, by decide +kernel⟩,
    ⟨onStep quietStep, _, now (quiet 50), 50, by decide +kernel, by decide +kernel, by decide +kernel,
  by decide +kernel, by decide +kernel, rfl, by decide +kernel⟩,
    ⟨onStep crashStep, _, now { withBatch (onStep crashStep) with prog.inBandS := 3600 }, by decide +kernel,
  by decide +kernel, by decide +kernel, by decide +kernel, by decide +kernel, rfl, by decide +kernel⟩,
    ⟨onStep crashStep, _, now { withBatch (onStep crashStep) with prog.inBandS := 10 }, by decide +kernel,
  by decide +kernel, by decide +kernel, by decide +kernel, by decide +kernel, rfl, by decide +kernel⟩,
    ⟨{ onStep crashStep with profile := [crashStep] }, _,
  now { withBatch { onStep crashStep with profile := [crashStep] } with prog.inBandS := 3600 }, by decide +kernel,
  by decide +kernel, by decide +kernel, by decide +kernel, by decide +kernel, rfl, by decide +kernel⟩⟩

/-- Premises of `Obligations.PressurePeriodDecidesVentAndGas`. -/
theorem test_pressure_period_decides_vent_and_gas_premises :
    (∃ s : State, s.station.powered = true ∧ s.station.press.on = true ∧ s.station.start.role = .follower) ∧
    (∃ s : State, s.station.powered = true ∧ s.station.press.on = true ∧ s.station.start.role ≠ .follower ∧
     s.station.exc.state = .normal ∧ s.station.health.test = none ∧ s.station.pour.active = none ∧
     s.station.press.primReq = false ∧ s.station.press.holdReq = false ∧ s.station.modeInForce = some .carb ∧
     s.station.tAvg = some 60) ∧
    (∃ s : State, s.station.powered = true ∧ s.station.press.on = true ∧ s.station.start.role ≠ .follower ∧
     s.station.exc.state = .normal ∧ s.station.health.test = none ∧ s.station.pour.active = none ∧
     s.station.press.primReq = false ∧ s.station.press.holdReq = false ∧ s.station.modeInForce = some .spund) ∧
    (∃ s : State, s.station.powered = true ∧ s.station.press.on = true ∧ s.station.start.role ≠ .follower ∧
     s.station.exc.state = .normal ∧ s.station.health.test = none ∧ s.station.pour.active = none ∧
     s.station.press.primReq = false ∧ s.station.press.holdReq = false ∧ s.station.keg.batch = none) ∧
    (∃ s : State, s.station.powered = true ∧ s.station.press.on = true ∧ s.station.start.role ≠ .follower ∧
     s.station.exc.state = .normal ∧ s.station.health.test = none ∧ s.station.pour.active = none ∧
     s.station.press.primReq = false ∧ s.station.press.holdReq = false ∧ s.station.modeInForce = some .free) ∧
    (∃ s : State, s.station.powered = true ∧ s.station.press.on = true ∧ s.station.start.role ≠ .follower ∧
     s.station.exc.state = .normal ∧ s.station.health.test = none ∧ s.station.pour.active = none ∧
     s.station.press.primReq = false ∧ s.station.press.holdReq = false ∧ s.station.modeInForce = some .carb ∧
     s.station.tAvg = none) ∧
    (∃ s : State, ∃ k, s.station.powered = true ∧ s.station.press.on = true ∧ s.station.start.role ≠ .follower ∧
     s.station.exc.state = .safeHold ∧ s.station.exc.kind = some k ∧ s.station.health.test = none ∧
     s.station.pour.active = none ∧ s.station.press.primReq = false ∧ s.station.press.holdReq = false ∧
     k = .overpressure) ∧
    (∃ s : State, ∃ k, s.station.powered = true ∧ s.station.press.on = true ∧ s.station.start.role ≠ .follower ∧
     s.station.exc.state = .safeHold ∧ s.station.exc.kind = some k ∧ s.station.health.test = none ∧
     s.station.pour.active = none ∧ s.station.press.primReq = false ∧ s.station.press.holdReq = false ∧ k = .kegLost) ∧
    (∃ s : State, ∃ k, s.station.powered = true ∧ s.station.press.on = true ∧ s.station.start.role ≠ .follower ∧
     s.station.exc.state = .safeHold ∧ s.station.exc.kind = some k ∧ s.station.health.test = none ∧
     s.station.pour.active = none ∧ s.station.press.primReq = false ∧ s.station.press.holdReq = false ∧
       k = .gasSupply) ∧
    (∃ s : State, ∃ k, s.station.powered = true ∧ s.station.press.on = true ∧ s.station.start.role ≠ .follower ∧
     s.station.exc.state = .safeHold ∧ s.station.exc.kind = some k ∧ s.station.health.test = none ∧
     s.station.pour.active = none ∧ s.station.press.primReq = false ∧ s.station.press.holdReq = false ∧
     k = .overtemp ∧ s.station.modeInForce = some .spund) ∧
    (∃ s : State, ∃ a, s.station.powered = true ∧ s.station.press.on = true ∧ s.station.pour.active = some a ∧
     s.station.start.role ≠ .follower ∧ a.stage ≠ .priming ∧ s.station.exc.state = .normal ∧
     s.station.health.test = none ∧ s.station.modeInForce = some .free ∧ s.station.sense.p = s.station.start.setup.fp) ∧
    (∃ s : State, ∃ a, s.station.powered = true ∧ s.station.press.on = true ∧ s.station.pour.active = some a ∧
     s.station.start.role ≠ .follower ∧ a.stage ≠ .priming ∧ s.station.exc.state = .normal ∧
     s.station.health.test = none ∧ s.station.modeInForce = some .spund) ∧
    (∃ s : State, ∃ a, s.station.powered = true ∧ s.station.press.on = true ∧ s.station.pour.active = some a ∧
     s.station.start.role ≠ .follower ∧ a.stage ≠ .priming ∧ s.station.exc.state = .normal ∧
     s.station.health.test = none ∧ a.stage = .paused ∧ s.station.press.holdReq = true) ∧
    (∃ s : State, ∃ a, s.station.powered = true ∧ s.station.press.on = true ∧ s.station.pour.active = some a ∧
     s.station.start.role ≠ .follower ∧ a.stage = .priming ∧
     s.station.start.setup.fp + 2 * s.station.start.setup.band ≤ s.station.sense.p ∧ s.station.exc.state = .normal ∧
     s.station.health.test = none ∧ s.station.pools.items.gas.inUse ≠ 0 ∧
     (∀ l, a.closeLevel = some l → a.delivered < l)) ∧
    (∃ s : State, ∃ a, s.station.powered = true ∧ s.station.press.on = true ∧ s.station.pour.active = some a ∧
     s.station.start.role ≠ .follower ∧ a.stage = .priming ∧
     s.station.start.setup.fp + 2 * s.station.start.setup.band ≤ s.station.sense.p ∧
     (s.station.exc.state = .lockout ∨ s.station.health.test.isSome = true ∨ s.station.pools.items.gas.inUse = 0)) :=
  ⟨⟨now follower, by decide +kernel⟩,
    ⟨now bay, by decide +kernel⟩,
    ⟨now (withBatch (onStep spundStep)), by decide +kernel⟩,
    ⟨now noBatch, by decide +kernel⟩,
    ⟨now (withBatch (onStep freeStep)), by decide +kernel⟩,
    ⟨now { bay with sense.beer := {} }, by decide +kernel⟩,
    ⟨now (held .overpressure), .overpressure, by decide +kernel⟩,
    ⟨now (held .kegLost), .kegLost, by decide +kernel⟩,
    ⟨now (held .gasSupply), .gasSupply, by decide +kernel⟩,
    ⟨now { held .overtemp with keg.batch := some (onStep spundStep) }, .overtemp, by decide +kernel⟩,
    ⟨now { pouring with keg.batch := some (onStep freeStep), sense.p := 30 }, active, by decide +kernel⟩,
    ⟨now { pouring with keg.batch := some (onStep spundStep) }, active, by decide +kernel⟩,
    ⟨now { waiting .paused with press.holdReq := true }, { active with stage := .paused }, by decide +kernel⟩,
    ⟨now { waiting .priming with sense.p := 40, pools.items.gas.inUse := 1 }, { active with stage := .priming },
  by decide +kernel, by decide +kernel, by decide +kernel, by decide +kernel, by decide +kernel, by decide +kernel,
  by decide +kernel, by decide +kernel, by decide +kernel, (fun _ h => by cases h; decide +kernel)⟩,
    ⟨now { waiting .priming with sense.p := 40 }, { active with stage := .priming }, by decide +kernel⟩⟩

/-- Premises of `Obligations.SolubilityIsInterpolated`. -/
theorem test_solubility_is_interpolated_premises :
    (∃ (t : Int) (k : List Nat) (x : Int) (i f a b : Nat), k = [180, 169, 159, 149, 140, 131, 123, 116, 109, 102, 96,
      90, 85, 79, 75, 70, 66] ∧
     x = max (-20) (min 300 t) ∧ i = (x + 20).toNat / 20 ∧ f = (x + 20).toNat - 20 * i ∧ a = k.getD i 0 ∧
     b = k.getD (i + 1) 0 ∧ i = 16) ∧
    (∃ (t : Int) (k : List Nat) (x : Int) (i f a b : Nat), k = [180, 169, 159, 149, 140, 131, 123, 116, 109, 102, 96,
      90, 85, 79, 75, 70, 66] ∧
     x = max (-20) (min 300 t) ∧ i = (x + 20).toNat / 20 ∧ f = (x + 20).toNat - 20 * i ∧ a = k.getD i 0 ∧
     b = k.getD (i + 1) 0 ∧ i < 16) ∧
    (∃ (t : Int) (k : List Nat) (x : Int) (i f a b : Nat), k = [180, 169, 159, 149, 140, 131, 123, 116, 109, 102, 96,
      90, 85, 79, 75, 70, 66] ∧
     x = max (-20) (min 300 t) ∧ i = (x + 20).toNat / 20 ∧ f = (x + 20).toNat - 20 * i ∧ a = k.getD i 0 ∧
     b = k.getD (i + 1) 0) :=
  ⟨⟨300, _, 300, 16, 0, 66, 0, rfl, by decide +kernel⟩,
    ⟨299, _, 299, 15, 19, 70, 66, rfl, by decide +kernel⟩,
    ⟨-21, _, -20, 0, 0, 180, 169, rfl, by decide +kernel⟩⟩

/-- Premises of `Obligations.CarbonationTargetIsRoundedAndClamped`. -/
theorem test_carbonation_target_is_rounded_and_clamped_premises :
    (∃ (c pa pr : Nat) (t : Int) (q : Nat), 100 ≤ c ∧ c ≤ 400 ∧ q = (100 * c + solubility t / 2) / solubility t ∧
     q < pa) ∧
    (∃ (c pa pr : Nat) (t : Int) (q : Nat), 100 ≤ c ∧ c ≤ 400 ∧ q = (100 * c + solubility t / 2) / solubility t ∧
     pa ≤ q ∧ q - pa ≤ pr) ∧
    (∃ (c pa pr : Nat) (t : Int) (q : Nat), 100 ≤ c ∧ c ≤ 400 ∧ q = (100 * c + solubility t / 2) / solubility t ∧
     pa + pr < q) ∧
    (∃ (c pa pr : Nat) (t : Int) (q : Nat), 100 ≤ c ∧ c ≤ 400 ∧ q = (100 * c + solubility t / 2) / solubility t) :=
  ⟨⟨100, 101, 240, -20, 56, by decide +kernel⟩,
    ⟨400, 101, 505, 300, 606, by decide +kernel⟩,
    ⟨400, 101, 504, 300, 606, by decide +kernel⟩,
    ⟨250, 101, 240, 0, 148, by decide +kernel⟩⟩

/-- Premises of `Obligations.HourEndLogsTheHour`. -/
theorem test_hour_end_logs_the_hour_premises :
    (∃ (b : Batch) (n : Nat) (l : List ActRec) (s : State), s.station.powered = true ∧ s.station.press.on = true ∧
     s.station.start.role ≠ .follower ∧ s.station.keg.batch = some b ∧
     n = (if s.station.press.hourCount = 65535 then 1 else s.station.press.hourCount + 1) ∧
     l =
       (if s.station.press.log.length < 24 then s.station.press.log else s.station.press.log.drop 1) ++
         [{ hour := n, mode := s.station.press.lastMode
            activity := if s.station.press.wholeSpund then some s.station.press.acc else none }] ∧
     (b.step.threshold = none ∨ b.run = false ∨ s.station.exc.h = true ∨ b.programEnd = true) ∧
     s.station.press.eqMark = true ∧ s.station.press.lastT = some 60) ∧
    (∃ (b : Batch) (n : Nat) (l : List ActRec) (s : State), s.station.powered = true ∧ s.station.press.on = true ∧
     s.station.start.role ≠ .follower ∧ s.station.keg.batch = some b ∧
     n = (if s.station.press.hourCount = 65535 then 1 else s.station.press.hourCount + 1) ∧
     l =
       (if s.station.press.log.length < 24 then s.station.press.log else s.station.press.log.drop 1) ++
         [{ hour := n, mode := s.station.press.lastMode
            activity := if s.station.press.wholeSpund then some s.station.press.acc else none }] ∧
     (b.step.threshold = none ∨ b.run = false ∨ s.station.exc.h = true ∨ b.programEnd = true) ∧
     s.station.press.eqMark = false) ∧
    (∃ (b : Batch) (n : Nat) (l : List ActRec) (s : State), ∃ th, s.station.powered = true ∧
     s.station.press.on = true ∧ s.station.start.role ≠ .follower ∧ s.station.keg.batch = some b ∧
     n = (if s.station.press.hourCount = 65535 then 1 else s.station.press.hourCount + 1) ∧
     l =
       (if s.station.press.log.length < 24 then s.station.press.log else s.station.press.log.drop 1) ++
         [{ hour := n, mode := s.station.press.lastMode
            activity := if s.station.press.wholeSpund then some s.station.press.acc else none }] ∧
     b.step.threshold = some th ∧ b.run = true ∧ s.station.exc.h = false ∧ b.programEnd = false ∧
     b.step.kind = .hold ∧ s.station.press.eqMark = false ∧ s.station.calm ∧
     ((b.step.duration = none ∨ b.step.duration.getD 0 ≤ b.stepMin) ∧ 12 ≤ l.length ∧ (∀ r ∈ l.drop (l.length - 12),
       r.activity.any (decide <| · < th) = true)) ∧
     b.stepIdx + 1 < b.profile.length) ∧
    (∃ (b : Batch) (n : Nat) (l : List ActRec) (s : State), ∃ th, s.station.powered = true ∧
     s.station.press.on = true ∧ s.station.start.role ≠ .follower ∧ s.station.keg.batch = some b ∧
     n = (if s.station.press.hourCount = 65535 then 1 else s.station.press.hourCount + 1) ∧
     l =
       (if s.station.press.log.length < 24 then s.station.press.log else s.station.press.log.drop 1) ++
         [{ hour := n, mode := s.station.press.lastMode
            activity := if s.station.press.wholeSpund then some s.station.press.acc else none }] ∧
     b.step.threshold = some th ∧ b.run = true ∧ s.station.exc.h = false ∧ b.programEnd = false ∧
     b.step.kind = .hold ∧ s.station.press.eqMark = false ∧ s.station.calm ∧
     (¬((b.step.duration = none ∨ b.step.duration.getD 0 ≤ b.stepMin) ∧ 12 ≤ l.length ∧
       (∀ r ∈ l.drop (l.length - 12), r.activity.any (decide <| · < th) = true)))) :=
  ⟨⟨onStep spundStep, 1, _,
  now { withBatch (onStep spundStep) with press.hourCount := 65535, press.eqMark := true, press.lastT := some 60 },
  by decide +kernel, by decide +kernel, by decide +kernel, by decide +kernel, by decide +kernel, rfl,
  by decide +kernel⟩,
    ⟨beer, 1, _, now bay, by decide +kernel, by decide +kernel, by decide +kernel, by decide +kernel, by decide +kernel,
  rfl, by decide +kernel⟩,
    ⟨onStep quietStep, 1, _,
  now { quiet 49 with press.log := List.replicate 11 (hourOf 49), press.wholeSpund := true, press.acc := 49 }, 50,
  by decide +kernel, by decide +kernel, by decide +kernel, by decide +kernel, by decide +kernel, rfl,
  by decide +kernel⟩,
    ⟨onStep quietStep, 1, _, now { quiet 49 with press.log := List.replicate 10 (hourOf 49) }, 50, by decide +kernel,
  by decide +kernel, by decide +kernel, by decide +kernel, by decide +kernel, rfl, by decide +kernel⟩⟩

/-- Premises of `Obligations.PoolBoundsAreKept`. -/
theorem test_pool_bounds_are_kept_premises :
    ∃ s t : State, s.station.poolsBounded ∧ step s = .next t :=
  ⟨now bay, _, by decide +kernel, rfl⟩

/-- Premises of `Obligations.ValvesAreKeptSafe`. -/
theorem test_valves_are_kept_safe_premises :
    (∃ s : Station, s.gasSafe) ∧
    (∃ s t : State, s.station.gasSafe ∧ step s = .next t) ∧
    (∃ s t : State, s.station.tapSafe ∧ step s = .next t) ∧
    (∃ s t : State, s.station.onePour ∧ step s = .next t) :=
  ⟨⟨bay, by decide +kernel⟩,
    ⟨now bay, _, by decide +kernel, rfl⟩,
    ⟨now bay, _, by decide +kernel, rfl⟩,
    ⟨now bay, _, by decide +kernel, rfl⟩⟩

/-- Premises of `Obligations.StationStateIsKeptLegal`. -/
theorem test_station_state_is_kept_legal_premises :
    (∃ s t : State, s.station.stateLegal ∧ step s = .next t) ∧
    (∃ s t : State, s.station.recordLegal ∧ step s = .next t ∧ s.station.keg.commit.isSome = true ∧
     s.station.keg.pendingMark = true) :=
  ⟨⟨now bay, _, by decide +kernel, rfl⟩,
    ⟨now legalCommit, _, by decide +kernel, rfl, by decide +kernel⟩⟩

/-- Premises of `Obligations.SizesAndFailingChecksAreKept`. -/
theorem test_sizes_and_failing_checks_are_kept_premises :
    (∃ s t : State, s.station.sizesOk ∧ step s = .next t) ∧
    (∃ s t : State, s.station.tornOk ∧ step s = .next t ∧ s.station.keg.commit.isSome = true) :=
  ⟨⟨now bay, _, by decide +kernel, rfl⟩,
    ⟨now legalCommit, _, by decide +kernel, rfl, by decide +kernel⟩⟩

/-- Premises of `Obligations.HealthAttributesAreMeasuredAndGraded`. -/
theorem test_health_attributes_are_measured_and_graded_premises :
    (∃ (bits : List Bool) (v : Nat) (s : State), s.station.powered = true ∧ s.station.link.idleSeen = true ∧
     receiveBits bits = none ∧ s.station.health.winCount = 999 ∧ v = s.station.health.winErr + 1 ∧ v = 37 ∧
     s.station.health.linkQ.state = .ok) ∧
    (∃ (bits : List Bool) (v : Nat) (s : State), s.station.powered = true ∧ s.station.link.idleSeen = true ∧
     receiveBits bits = none ∧ s.station.health.winCount = 999 ∧ v = s.station.health.winErr + 1 ∧ v = 38 ∧
     s.station.health.linkQ.state = .ok) ∧
    (∃ (bits : List Bool) (v : Nat) (s : State), s.station.powered = true ∧ s.station.link.idleSeen = true ∧
     receiveBits bits = none ∧ s.station.health.winCount = 999 ∧ v = s.station.health.winErr + 1 ∧ v = 50 ∧
     s.station.health.linkQ.state = .ok) ∧
    (∃ (bits : List Bool) (v : Nat) (s : State), s.station.powered = true ∧ s.station.link.idleSeen = true ∧
     receiveBits bits = none ∧ s.station.health.winCount = 999 ∧ v = s.station.health.winErr + 1 ∧ v = 51 ∧
     s.station.health.linkQ.state = .ok) ∧
    (∃ (bits : List Bool) (f : Frame) (v : Nat) (s : State), s.station.powered = true ∧
     s.station.link.idleSeen = true ∧ receiveBits bits = some f ∧ 5 ≤ f.kind.toNat ∧
     f.sender.toNat ≠ s.station.start.id ∧ s.station.health.winCount = 999 ∧ v = s.station.health.winErr ∧ v = 37) ∧
    (∃ (bits : List Bool) (f : Frame) (v : Nat) (s : State), s.station.powered = true ∧
     s.station.link.idleSeen = true ∧ receiveBits bits = some f ∧ 5 ≤ f.kind.toNat ∧
     f.sender.toNat ≠ s.station.start.id ∧ s.station.health.winCount = 999 ∧ v = s.station.health.winErr ∧ v = 38) ∧
    (∃ (d : DrainPour) (b : Batch) (n v : Nat) (s : State), s.station.powered = true ∧ s.station.pour.drain = some d ∧
     s.station.keg.batch = some b ∧ b.phase = .serve ∧ n = s.station.health.poured + d.delivered ∧
     v = s.station.health.gasCount * 1000 / n ∧ n = 9999) ∧
    (∃ (d : DrainPour) (b : Batch) (n v : Nat) (s : State), s.station.powered = true ∧ s.station.pour.drain = some d ∧
     s.station.keg.batch = some b ∧ b.phase = .serve ∧ n = s.station.health.poured + d.delivered ∧
     v = s.station.health.gasCount * 1000 / n ∧ n = 10000 ∧ v = 14) ∧
    (∃ (d : DrainPour) (b : Batch) (n v : Nat) (s : State), s.station.powered = true ∧ s.station.pour.drain = some d ∧
     s.station.keg.batch = some b ∧ b.phase = .serve ∧ n = s.station.health.poured + d.delivered ∧
     v = s.station.health.gasCount * 1000 / n ∧ n = 10000 ∧ v = 15) ∧
    (∃ (d : DrainPour) (b : Batch) (n v : Nat) (s : State), s.station.powered = true ∧ s.station.pour.drain = some d ∧
     s.station.keg.batch = some b ∧ b.phase = .serve ∧ n = s.station.health.poured + d.delivered ∧
     v = s.station.health.gasCount * 1000 / n ∧ n = 10000 ∧ v = 21) ∧
    (∃ (m : ChillMeas) (b : Batch) (x : Int) (ms : Nat) (s : State), s.station.powered = true ∧
     s.station.prog.cycleOn = true ∧ s.station.start.role = .single ∧ s.station.prog.pair = .single ∧
     s.station.prog.vessel = false ∧ s.station.exc.state = .normal ∧ s.station.exc.h = false ∧
     s.station.keg.batch = some b ∧ b.run = true ∧ b.step.kind = .crash ∧ s.station.health.meas = some m ∧
     s.station.tAvg = some x ∧ x - b.step.target ≤ 5 ∧ b.step.target - x ≤ 5 ∧
     ms = m.openMs + (if s.station.prog.glycol then 10000 - s.station.prog.cycleMs else 0) ∧ m.start = none) ∧
    (∃ (m : ChillMeas) (b : Batch) (x : Int) (ms : Nat) (s : State), s.station.powered = true ∧
     s.station.prog.cycleOn = true ∧ s.station.start.role = .single ∧ s.station.prog.pair = .single ∧
     s.station.prog.vessel = false ∧ s.station.exc.state = .normal ∧ s.station.exc.h = false ∧
     s.station.keg.batch = some b ∧ b.run = true ∧ b.step.kind = .crash ∧ s.station.health.meas = some m ∧
     s.station.tAvg = some x ∧ x - b.step.target ≤ 5 ∧ b.step.target - x ≤ 5 ∧
     ms = m.openMs + (if s.station.prog.glycol then 10000 - s.station.prog.cycleMs else 0) ∧ ms = 59999) ∧
    (∃ (m : ChillMeas) (b : Batch) (x : Int) (ms : Nat) (s : State), s.station.powered = true ∧
     s.station.prog.cycleOn = true ∧ s.station.start.role = .single ∧ s.station.prog.pair = .single ∧
     s.station.prog.vessel = false ∧ s.station.exc.state = .normal ∧ s.station.exc.h = false ∧
     s.station.keg.batch = some b ∧ b.run = true ∧ b.step.kind = .crash ∧ s.station.health.meas = some m ∧
     s.station.tAvg = some x ∧ x - b.step.target ≤ 5 ∧ b.step.target - x ≤ 5 ∧
     ms = m.openMs + (if s.station.prog.glycol then 10000 - s.station.prog.cycleMs else 0) ∧ ms = 60000 ∧
     m.start = some 17) ∧
    (∃ (m : ChillMeas) (b : Batch) (x : Int) (s : State), s.station.admitsOwn ∧ s.station.exc.state = .normal ∧
     s.station.prog.vessel = false ∧ s.station.keg.batch = some b ∧ b.programEnd = false ∧
     b.stepIdx + 1 < b.profile.length ∧ (b.profile.getD (b.stepIdx + 1) {}).kind ≠ .crash ∧ s.station.calm ∧
     s.station.health.meas = some m ∧ s.station.tAvg = some x ∧ m.start = some 60 ∧ m.openMs = 60000) ∧
    (∃ (m : ChillMeas) (b : Batch) (x : Int) (s : State), s.station.admitsOwn ∧ s.station.exc.state = .normal ∧
     s.station.prog.vessel = false ∧ s.station.keg.batch = some b ∧ b.programEnd = false ∧
     b.stepIdx + 1 < b.profile.length ∧ (b.profile.getD (b.stepIdx + 1) {}).kind ≠ .crash ∧ s.station.calm ∧
     s.station.health.meas = some m ∧ s.station.tAvg = some x ∧ m.openMs = 59999) ∧
    (∃ (b : Batch) (s : State), s.station.admitsOwn ∧ s.station.exc.state ≠ .lockout ∧ s.station.keg.batch = some b ∧
     b.programEnd = false ∧ b.stepIdx + 1 < b.profile.length ∧ (b.profile.getD (b.stepIdx + 1) {}).kind = .crash ∧
     s.station.calm) :=
  ⟨⟨[], 37, now (window999 36), by decide +kernel⟩,
    ⟨[], 38, now (window999 37), by decide +kernel⟩,
    ⟨[], 50, now (window999 49), by decide +kernel⟩,
    ⟨[], 51, now (window999 50), by decide +kernel⟩,
    ⟨Frame.bits ⟨6, 14, 15, 5, []⟩, ⟨6, 14, 15, 5, []⟩, 37, now (window999 37), by decide +kernel⟩,
    ⟨Frame.bits ⟨6, 14, 15, 5, []⟩, ⟨6, 14, 15, 5, []⟩, 38, now (window999 38), by decide +kernel⟩,
    ⟨drained .done 270, beer, 9999, _, now (poured 9729 0), by decide +kernel, by decide +kernel, by decide +kernel,
  by decide +kernel, by decide +kernel, rfl, by decide +kernel⟩,
    ⟨drained .done 270, beer, 10000, 14, now (poured 9730 149), by decide +kernel⟩,
    ⟨drained .done 270, beer, 10000, 15, now (poured 9730 150), by decide +kernel⟩,
    ⟨drained .done 270, beer, 10000, 21, now (poured 9730 210), by decide +kernel⟩,
    ⟨⟨none, 60000⟩, onStep crashStep, 15, 60000, now (crashing ⟨none, 60000⟩), by decide +kernel⟩,
    ⟨⟨some 18, 59999⟩, onStep crashStep, 15, 59999, now (crashing ⟨some 18, 59999⟩), by decide +kernel⟩,
    ⟨⟨some 17, 60000⟩, onStep crashStep, 15, 60000, now (crashing ⟨some 17, 60000⟩), by decide +kernel⟩,
    ⟨⟨some 60, 60000⟩, onStep crashStep, 60, now (endsCrash ⟨some 60, 60000⟩), by decide +kernel⟩,
    ⟨⟨some 60, 59999⟩, onStep crashStep, 60, now (endsCrash ⟨some 60, 59999⟩), by decide +kernel⟩,
    ⟨cooling, now (withBatch cooling), by decide +kernel⟩⟩

/-! ## The branches of the chains -/

/-- Premises of `Obligations.RefusalsComeInTheOrderOfTheirTables`: every branch of the START_BATCH chain is met. -/
theorem test_start_batch_refusal_branches :
    ∀ q ∈ [(([] : List Byte), bay, ReplyCode.badLength), (good, follower, .role), (good, locked, .lockout),
        (good, { bay with health.test := some test10 }, .busyTest), (good, bay, .badState),
        (good, { noBatch with sense.keg := false }, .noKeg), (good.set 7 0xFF, noBatch, .badProfile), (good, noBatch,
          .ok)],
      q.2.1.admits ∧ (judge 1 q.1 (reserveEntry 1 q.2.1)).rc = q.2.2 := by
  decide +kernel

/-- Premises of `Obligations.RefusalsComeInTheOrderOfTheirTables`: every branch of the POUR chain is met. -/
theorem test_pour_refusal_branches :
    ∀ q ∈ [((16 : Byte), bay, ReplyCode.badLength), (15, follower, .role), (15, locked, .lockout), (15, noBatch,
      .badState),
        (15, withBatch (onStep crashStep), .badState), (15, { bay with sense.keg := false }, .noKeg),
        (15, withBatch { beer with kegEmpty := true }, .empty), (15, { bay with keg.tapLock := true }, .locked),
        (0, bay, .tagInUse), (2, pouring, .tagInUse), (15, { bay with pour.queue := List.replicate 4 onHandle },
          .queueFull),
        (15, { bay with pour.queue := List.replicate 3 onHandle }, .ok)],
      q.2.1.admits ∧ (judge 7 [q.1, 0, 0, 200, 0] (reserveEntry 7 q.2.1)).rc = q.2.2 := by
  decide +kernel

/-- Premises of `Obligations.OpenPourClosesIntoItsDrainWindow`: each way an open pour closes has a state that meets its
premises. -/
theorem test_open_pour_closes_into_its_drain_window_premises :
    (pouring.powered = true ∧ pouring.pour.active = some active ∧ pouring.pour.tap = true ∧
      pouring.sense.handle = false ∧
      pouring.start.role ≠ .follower ∧ active.tag ≠ 0 ∧ active.foamMs.isSome = true ∧ pouring.admitsOwn ∧
      pouring.tagHeld active.tag = true) ∧
    (manual.powered = true ∧ manual.pour.active = some { active with tag := 0 } ∧ manual.pour.tap = true ∧
      manual.sense.handle = true) := by
  decide +kernel

/-- Premises of `Obligations.ProbesFollowTheirStateTable`: the beer samples at the bounds of the temperature check, each
with whether OVERTEMP and UNDERTEMP then stand. -/
theorem test_beer_samples_at_the_bounds_of_the_check :
    ∀ q ∈ [(81, { bay with exc.overS := 598 }, false, false), (81, { bay with exc.overS := 599 }, true, false),
        (80, { bay with exc.overS := 599 }, false, false), (351, bay, true, false), (350, bay, false, false),
        (-26, { bay with exc.underS := 59 }, false, true), (-25, { bay with exc.underS := 59 }, false, false),
        (40, { held .overtemp with exc.overtemp := true }, false, false), (351, follower, false, false),
        (351, orphan, true, false)],
      ((probeSample .beer (some q.1) (warm q.1 q.2.1)).exc.overtemp,
        (probeSample .beer (some q.1) (warm q.1 q.2.1)).exc.undertemp) = q.2.2 := by
  decide +kernel

/-- Premises of `Obligations.ControlPeriodPostsAndStartsTheCycle`: the jackets, the excursions and the slopes of its
first clause. -/
theorem test_control_period_cases :
    ∀ s ∈ [bay, jacketAt (-10), jacketAt (-11), { bay with sense.jacket := { state := .failed } },
        { bay with sense.jacket := {} }, held .overtemp, held .undertemp, held .kegLost, held .probeLost, locked,
        withBatch { beer with stepIdx := 1 }, { orphan with prog.cycleOn := true }],
      s.powered = true ∧ s.prog.cycleOn = true ∧ s.prog.pair ≠ .leadPaired ∧ s.prog.pair ≠ .following ∧
        s.prog.vessel = false ∧ s.prog.leadHeard = false ∧ s.followHold = false ∧ s.tAvg = some 60 ∧
        s.setpoint.isSome = true := by
  decide +kernel

end Sys2Proof.Tests
end

section
/-! SUPPORT. What the statements about the program share: accepted requests, the flags, the temperature check of a
station with nothing to report, and the end of a step. -/
namespace Sys2Proof.Machine
open Sys2Proof

/-! ## Accepted requests -/

@[simp] theorem reserveEntry_frame (code : Nat) (s : Station) :
    (reserveEntry code s).nv = s.nv ∧ (reserveEntry code s).start = s.start ∧ (reserveEntry code s).sense = s.sense ∧
    (reserveEntry code s).keg = s.keg ∧ (reserveEntry code s).prog = s.prog ∧ (reserveEntry code s).press = s.press ∧
    (reserveEntry code s).pools = s.pools ∧ (reserveEntry code s).pour = s.pour ∧ (reserveEntry code s).exc = s.exc ∧
    (reserveEntry code s).health = s.health ∧ (reserveEntry code s).req = s.req := by
  simp [reserveEntry]

@[simp] theorem fillEntry_accept_frame (code : Nat) (s : Station) :
    (fillEntry code (accept s)).nv = s.nv ∧ (fillEntry code (accept s)).start = s.start ∧
    (fillEntry code (accept s)).sense = s.sense ∧ (fillEntry code (accept s)).keg = s.keg ∧
    (fillEntry code (accept s)).prog = s.prog ∧ (fillEntry code (accept s)).press = s.press ∧
    (fillEntry code (accept s)).pools = s.pools ∧ (fillEntry code (accept s)).pour = s.pour ∧
    (fillEntry code (accept s)).exc = s.exc ∧ (fillEntry code (accept s)).health = s.health ∧
    (fillEntry code (accept s)).req = s.req := by
  simp [fillEntry, accept]

/-- A request taken whose refusals all fail acts as its acceptance `f`, and its reply is OK (R118, R189). -/
theorem takeRequest_accepted {s : Station} {code : Nat} {j : Station → Verdict} {f : Station → Station}
    {l : List (Bool × ReplyCode)} (ht : s.takes) (hj : j (reserveEntry code s) = firstOf (reserveEntry code s) f l)
    (hl : ∀ x ∈ l, x.1 = false) : takeRequest code j s = fillEntry code (accept (f (reserveEntry code s))) := by
  rw [takeRequest_taken ht, hj, firstOf_accept hl]

/-- An accepted request that leaves the reply list adds its reply, OK, to the end. -/
theorem fillEntry_accept_replies {code : Nat} {s t : Station}
    (h : t.link.replies = (reserveEntry code s).link.replies) :
    (fillEntry code (accept t)).link.replies = s.link.replies ++ [{ code := code }] :=
  fillEntry_replies (v := accept t) h

/-- Equal stations make equal outcomes. -/
theorem next_congr {a b : Station} {l : List Instr} (h : a = b) :
    (.next ⟨a, l⟩ : Host.Outcome State Fault Refusal) = .next ⟨b, l⟩ := by
  rw [h]

/-! ## Flags -/

/-- The set of one flag holds that flag and no other (R194). -/
theorem Flag.bit_getLsbD (f g : Flag) : f.bit.getLsbD g.pos = decide (g = f) := by
  cases f <;> cases g <;> rfl

@[simp] theorem fillEntry_accept_flag (code : Nat) (g : Flag) (s : Station) :
    (fillEntry code (accept s)).flag g = s.flag g := by
  simp [Station.flag]

/-- A flag set stands, and every other is as it was (R194). -/
@[simp] theorem setFlag_flag (f g : Flag) (s : Station) : (setFlag f s).flag g = (s.flag g || decide (g = f)) := by
  cases h : s.flag f
  · simp only [Station.flag, setFlag_flags f s h, BitVec.getLsbD_or, Flag.bit_getLsbD]
  · by_cases hg : g = f
    · simp [setFlag_of_set h, hg, h]
    · simp [setFlag_of_set h, hg]

@[simp] theorem setFlagIf_flag (c : Bool) (f g : Flag) (s : Station) :
    (setFlagIf c f s).flag g = (s.flag g || (c && decide (g = f))) := by
  cases c <;> simp [setFlagIf]

/-- Clearing a flag leaves every other as it was. -/
theorem clearFlag_flag {f g : Flag} (h : g ≠ f) (s : Station) : (clearFlag f s).flag g = s.flag g := by
  have hlt : g.pos < 20 := by cases g <;> decide
  have hb : f.bit.getLsbD g.pos = false := by simp [Flag.bit_getLsbD, h]
  simp only [clearFlag, Station.flag, BitVec.getLsbD_and, BitVec.getLsbD_not, hb, hlt]
  simp

/-- A settled target sets or clears CARB_LIMITED alone (R63). -/
theorem computeTarget_flag {g : Flag} (h : g ≠ .carbLimited) (s : Station) : (computeTarget s).flag g = s.flag g := by
  unfold computeTarget
  split
  · split
    · rfl
    · dsimp only
      split
      · rw [setFlag_flag]
        simp [h, Station.flag]
      · rw [clearFlag_flag h]
        rfl
  · rfl

/-- A change of a health item's state sets no flag but the two of the health unit (R177). -/
theorem gradeFlags_flag {g : Flag} (hw : g ≠ .healthWarn) (ht : g ≠ .healthTrip) (old new : AttrState) (s : Station) :
    (gradeFlags old new s).flag g = s.flag g := by
  cases old <;> cases new <;> simp [gradeFlags, hw, ht]

/-- The close of a CHILL_RESPONSE measurement sets none but them either (R179). -/
theorem closeChill_flag {g : Flag} (hw : g ≠ .healthWarn) (ht : g ≠ .healthTrip) (s : Station) :
    (closeChill s).flag g = s.flag g := by
  unfold closeChill
  split
  · rfl
  · dsimp only
    split
    · split
      · rw [measureChill, gradeFlags_flag hw ht]
        rfl
      · rfl
    · rfl

/-! ## The temperature check of a station with nothing to report -/

/-- The check runs on the station's T_avg (R162). -/
theorem Station.tAvg_of_checked {s : Station} {t sp : Int} (h : s.checked = some (t, sp)) : s.tAvg = some t := by
  simp only [Station.checked] at h
  revert h
  (repeat' split) <;> simp_all

/-- As `tempCheck_calm`, with the bounds that leave the station one with nothing to report. -/
theorem tempCheck_calm_lt {s : Station} (h : s.calm) :
    ∃ o < 600, ∃ u < 60, tempCheck false s = { s with exc.overS := o, exc.underS := u } := by
  obtain ⟨ht, ho, hu, h1, h2⟩ := h
  unfold tempCheck
  split
  · exact ⟨0, by decide, 0, by decide, setCond_calm 0 0 h1 h2⟩
  · next t sp hc =>
      have ho' : checkTimer (decide (sp + 40 < t)) false Config.overtempS s.exc.overS < 600 := checkTimer_lt ho
      have hu' : checkTimer (decide (t < -25)) false Config.undertempS s.exc.underS < 60 := checkTimer_lt hu
      have hlt : ¬ 350 < t := by simpa [Station.tAvg_of_checked hc] using ht
      have hno := Nat.ne_of_lt ho'
      have hnu := Nat.ne_of_lt hu'
      refine ⟨_, ho', _, hu', ?_⟩
      simp only [Config.overtempS, Config.undertempS] at hno hnu ⊢
      simp only [hno, hnu, hlt, or_self, decide_false]
      exact setCond_calm _ _ h1 h2

/-- As `withSetpoint_calm`, with the same bounds, and with the pending mark of a commit that was in flight. -/
theorem withSetpoint_calm_lt {f : Station → Station} {s : Station} (h : (f s).calm) :
    ∃ o < 600, ∃ u < 60, ∃ m, (s.keg.commit ≠ none → m = (f s).keg.pendingMark) ∧
      withSetpoint f s = { f s with exc.overS := o, exc.underS := u, keg.pendingMark := m } := by
  unfold withSetpoint
  dsimp only
  split
  · exact ⟨_, h.2.1, _, h.2.2.1, _, fun _ => rfl, rfl⟩
  · obtain ⟨o, ho, u, hu, e⟩ := tempCheck_calm_lt h
    obtain ⟨m, em⟩ := oneTrigger_eq s (tempCheck false (f s))
    refine ⟨o, ho, u, hu, m, fun hc => ?_, by rw [em, e]⟩
    have := congrArg (fun r => r.keg.pendingMark) ((oneTrigger_inFlight hc _).symm.trans em)
    simpa [e] using this.symm

/-- Where neither the setpoint nor the running of the check changes, nothing is checked (R162). -/
theorem withSetpoint_same {f : Station → Station} {s : Station} (hs : (f s).setpoint = s.setpoint)
    (hc : (f s).checked.isSome = s.checked.isSome) : withSetpoint f s = f s := by
  simp [withSetpoint, hs, hc]

/-! ## The end of a step -/

/-- What a change of the mode in force brings (R61) leaves the record, the activity log and every flag but
CARB_LIMITED. -/
theorem withMode_keeps (f : Station → Station) (s : Station) :
    (withMode f s).start = (f s).start ∧ (withMode f s).sense = (f s).sense ∧ (withMode f s).keg = (f s).keg ∧
    (withMode f s).pour = (f s).pour ∧ (withMode f s).exc = (f s).exc ∧
    (withMode f s).press.log = (f s).press.log ∧ (withMode f s).prog.secs = (f s).prog.secs ∧
    (withMode f s).prog.inBandS = (f s).prog.inBandS ∧
    ∀ g, g ≠ .carbLimited → (withMode f s).flag g = (f s).flag g := by
  simp only [withMode]
  split
  · simp
  · have hlog : (computeTarget (f s)).press.log = (f s).press.log := by
      simp only [computeTarget]
      (repeat' split) <;> simp
    refine ⟨by simp, by simp, by simp, by simp, by simp, by simp [redecide, hlog], by simp, by simp, fun g hg => ?_⟩
    simpa [redecide, Station.flag] using computeTarget_flag hg (f s)

/-- A write that changes a field is a change of the record (R8). -/
theorem writeBatch_of_change {f : Batch → Batch} {b : Batch} {s : Station} (hb : s.keg.batch = some b) (h : f b ≠ b) :
    writeBatch f s = noteChange { s with keg.batch := some (f b) } := by
  simp [writeBatch, hb, h]

/-- The record of the next step is another (R41). -/
theorem Batch.advanced_ne (b : Batch) : b.advanced ≠ b := fun h => by
  simpa [Batch.advanced, Batch.withPhase] using congrArg Batch.stepIdx h

/-- The station as the next step has become current, before its commit trigger (R41, R45). -/
def stepBegun (b : Batch) (s : Station) : Station :=
  setFlag .stepAdvanced <| setFlagIf (b.advanced.phase != b.phase) .phaseChanged <| stepCurrent b.advanced <|
    noteChange { closeChill s with keg.batch := some b.advanced }

/-- A step that is not the final one ends (R45): the next becomes current, and a commit is triggered. -/
theorem endStep_next {b : Batch} {s : Station} (hb : s.keg.batch = some b) (hn : b.stepIdx + 1 < b.profile.length) :
    endStep b s = commitTrigger (stepBegun b s) := by
  have hw : writeBatch (fun _ => b.advanced) (closeChill s) =
      noteChange { closeChill s with keg.batch := some b.advanced } :=
    writeBatch_of_change (by simpa using hb) b.advanced_ne
  simp only [endStep, hn, if_true, hw, stepBegun]

theorem stepBegun_keg (b : Batch) (s : Station) :
    (stepBegun b s).keg = (noteChange { s with keg.batch := some b.advanced }).keg := by
  simp [stepBegun, noteChange]

theorem stepBegun_flag (b : Batch) (s : Station) :
    (stepBegun b s).flag .stepAdvanced = true ∧
      (b.advanced.phase ≠ b.phase → (stepBegun b s).flag .phaseChanged = true) := by
  simp +contextual [stepBegun]

theorem stepBegun_times (b : Batch) (s : Station) :
    (stepBegun b s).prog.secs = 0 ∧ (stepBegun b s).prog.inBandS = 0 := by
  simp only [stepBegun, setFlag_frame, setFlagIf_frame, stepCurrent]
  split <;> simp

/-- The final step ends (R45): the program ends. -/
theorem endStep_final {b : Batch} {s : Station} (hn : b.profile.length ≤ b.stepIdx + 1) :
    endStep b s =
      commitTrigger (setFlag .programEnd (writeBatch (fun b => { b with programEnd := true }) (closeChill s))) := by
  simp [endStep, Nat.not_lt.mpr hn]

@[simp] theorem commitTrigger_flag (g : Flag) (s : Station) : (commitTrigger s).flag g = s.flag g := by
  simp [Station.flag]

/-- A commit trigger leaves the batch. -/
@[simp] theorem commitTrigger_batch (s : Station) : (commitTrigger s).keg.batch = s.keg.batch := by
  simp only [commitTrigger, startCommit]
  (repeat' split) <;> rfl

/-- A step end on a station with nothing to report: the step's own effect with what a change of mode brings, the two
timers of the check, and a pending mark that stands where a commit was in flight. -/
theorem stepEnd_calm {b : Batch} {s : Station} (hb : s.keg.batch = some b) (hc : s.calm) :
    ∃ o < 600, ∃ u < 60, ∃ m, (s.keg.commit ≠ none → m = (endStep b s).keg.pendingMark) ∧
      stepEnd s =
        { withMode (fun s => modeMark s.modeInForce (endStep b s)) s with
          exc.overS := o, exc.underS := u, keg.pendingMark := m } := by
  have hw := withMode_keeps (fun s => modeMark s.modeInForce (endStep b s)) s
  have hcalm : (withMode (fun s => modeMark s.modeInForce (endStep b s)) s).calm := by
    simpa [Station.calm, Station.tAvg, hw] using hc
  simpa [stepEnd, hb, hw] using
    withSetpoint_calm_lt (f := withMode fun s => modeMark s.modeInForce (endStep b s)) hcalm

/-- What every step end leaves on a station with nothing to report, and what it takes over from `endStep`. -/
theorem stepEnd_keeps_calm {b : Batch} {s : Station} (hb : s.keg.batch = some b) (hc : s.calm) :
    (stepEnd s).calm ∧ (stepEnd s).exc.state = s.exc.state ∧ (stepEnd s).pour = s.pour ∧
      (stepEnd s).press.log = s.press.log ∧ (stepEnd s).keg.batch = (endStep b s).keg.batch ∧
      (stepEnd s).keg.commit = (endStep b s).keg.commit ∧
      (s.keg.commit ≠ none → (stepEnd s).keg.pendingMark = (endStep b s).keg.pendingMark) ∧
      (stepEnd s).prog.secs = (endStep b s).prog.secs ∧ (stepEnd s).prog.inBandS = (endStep b s).prog.inBandS ∧
      ∀ g, g ≠ .carbLimited → (stepEnd s).flag g = (endStep b s).flag g := by
  obtain ⟨hstart, hsense, hkeg, hpour, hexc, hlog, hsecs, hband, hflag⟩ :=
    withMode_keeps (fun s => modeMark s.modeInForce (endStep b s)) s
  obtain ⟨o, ho, u, hu, m, hm, e⟩ := stepEnd_calm hb hc
  have hml (x : Option PMode) (r : Station) : (modeMark x r).press.log = r.press.log := by
    unfold modeMark
    split <;> rfl
  have hmf (x : Option PMode) (r : Station) (g : Flag) : (modeMark x r).flag g = r.flag g := by simp [Station.flag]
  rw [e]
  refine ⟨?_, by simp [hexc], by simp [hpour], by simp [hlog, hml], by simp [hkeg], by simp [hkeg], hm, by simp [hsecs],
    by simp [hband], fun g hg => (hflag g hg).trans (hmf _ _ g)⟩
  obtain ⟨ht, -, -, h1, h2⟩ := hc
  exact ⟨by simpa [Station.tAvg, hsense] using ht, ho, hu, by simpa [hexc] using h1, by simpa [hexc] using h2⟩

/-- The next step becomes current (R45). -/
theorem stepEnd_next {b : Batch} {s : Station} (hb : s.keg.batch = some b) (hc : s.calm)
    (hn : b.stepIdx + 1 < b.profile.length) :
    (stepEnd s).keg.batch = some b.advanced ∧ (stepEnd s).flag .stepAdvanced = true := by
  obtain ⟨-, -, -, -, hbatch, -, -, -, -, hflag⟩ := stepEnd_keeps_calm hb hc
  rw [hbatch, hflag _ (by decide), endStep_next hb hn]
  simp [stepBegun_flag, stepBegun_keg, noteChange]

/-- The program ends at the end of its final step (R45). -/
theorem stepEnd_final {b : Batch} {s : Station} (hb : s.keg.batch = some b) (hc : s.calm)
    (hn : b.profile.length ≤ b.stepIdx + 1) :
    (stepEnd s).keg.batch = some { b with programEnd := true } ∧ (stepEnd s).flag .programEnd = true := by
  obtain ⟨-, -, -, -, hbatch, -, -, -, -, hflag⟩ := stepEnd_keeps_calm hb hc
  rw [hbatch, hflag _ (by decide), endStep_final hn]
  simp [writeBatch_batch, hb]

end Sys2Proof.Machine
end

section
/-! PROOFS. The program's requests: EDIT_STEP, ADVANCE_STEP, RUN_PROGRAM and PAUSE_PROGRAM (R39, R41, R45 to R47). -/
namespace Sys2Proof.Machine
open Sys2Proof

/-! ## EDIT_STEP -/

/-- The write of an edit (R39). -/
def storeStep (i : Nat) (st : Machine.Step) : Station → Station :=
  writeBatch fun b => { b with profile := b.profile.set i st }

/-- An edit that leaves the current step's duration ends no step (R39). -/
theorem editStep_of_not_ends {i : Nat} {st : Machine.Step} {b : Batch} {s : Station} (hb : s.keg.batch = some b)
    (h : i = b.stepIdx → st.duration = b.step.duration) :
    editStep i st s = withSetpoint (storeStep i st) s := by
  have he (s : Station) : editEnds i st b s = false := by
    by_cases hi : i = b.stepIdx
    · simp [editEnds, h hi]
    · simp [editEnds, hi]
  simp only [editStep, hb, he, stepEndIf]
  rfl

/-- Settles O11: the edit is a write of the record and of nothing else, and the check that its setpoint calls for has
nothing to report. -/
theorem editStepReplacesOneStep : Obligations.EditStepReplacesOneStep := by
  unfold Obligations.EditStepReplacesOneStep
  intro i a st b s hadm hcalm hlen hread hlegal hb hlt hle hcur
  obtain ⟨⟨htakes, hrestart⟩, hrole⟩ := hadm
  have hat : at8 (i :: a) 0 = i.toNat := rfl
  have hcur' : (i.toNat == b.stepIdx && !sameButSetting st b.step) = false := by
    by_cases h : i.toNat = b.stepIdx
    · simp [h, (hcur h).1]
    · simp [h]
  have hbarred : editBarred i.toNat (some st) (reserveEntry 2 s.station) = false := by
    simpa [editBarred, hb, hlt, hle] using hcur'
  have hw : (storeStep i.toNat st (reserveEntry 2 s.station)).calm := by
    simpa [storeStep, Station.calm, Station.tAvg] using hcalm
  have hacc : takeRequest 2 (judgeEditStep (i :: a)) s.station =
      fillEntry 2 (accept (withSetpoint (storeStep i.toNat st) (reserveEntry 2 s.station))) := by
    rw [← editStep_of_not_ends (s := reserveEntry 2 s.station) (by simpa using hb) fun h => (hcur h).2]
    refine takeRequest_accepted htakes (by simp only [judgeEditStep, hat, reserveEntry_frame, hread]; rfl) ?_
    simp [common, hlen, Station.restartPending, hrestart, Station.follower, hrole, hbarred, hlegal]
  obtain ⟨o, u, m, e⟩ := withSetpoint_calm hw
  refine ⟨_, act_powered htakes.1 _, rfl, ?_⟩
  simp only [State.on_station, hacc, e]
  refine ⟨?_, fillEntry_accept_replies (by simp [storeStep]), ?_⟩
  · simp [storeStep, writeBatch_batch, hb]
  · simp [storeStep]

/-! ## ADVANCE_STEP -/

/-- An accepted ADVANCE_STEP is a step end (R46). -/
theorem advanceStep_accepted {b : Batch} {s : Station} (hadm : s.admitsOwn) (hl : s.exc.state ≠ .lockout)
    (hb : s.keg.batch = some b) (he : b.programEnd = false) :
    takeRequest 3 (judgeAdvanceStep []) s = fillEntry 3 (accept (stepEnd (reserveEntry 3 s))) := by
  obtain ⟨⟨htakes, hrestart⟩, hrole⟩ := hadm
  refine takeRequest_accepted htakes rfl ?_
  simp [common, Station.restartPending, hrestart, Station.follower, hrole, Station.inLockout, hl, Station.noStepToEnd,
    hb, he]

/-- What the trigger at a step's beginning commits (R9, R11, R45). -/
theorem stepBegun_commitTrigger {b : Batch} {s : Station} (hloaded : s.keg.loaded = true)
    (hrestart : s.req.restart = none) (hrole : s.start.role ≠ .follower) :
    (s.keg.commit = none →
      (commitTrigger (stepBegun b s)).keg.commit = some { snap := ⟨some b.advanced, s.keg.tapLock⟩ }) ∧
    (s.keg.commit.isSome = true → (commitTrigger (stepBegun b s)).keg.pendingMark = true) := by
  have hfollower : (stepBegun b s).follower = false := by simp [stepBegun, Station.follower, hrole]
  have hkeg := stepBegun_keg b s
  have hload : (stepBegun b s).keg.loaded = true := by simp [hkeg, hloaded]
  constructor
  · intro hc
    have hpending : (stepBegun b s).restartPending = false := by simp [stepBegun, Station.restartPending, hrestart]
    have hpersist : (stepBegun b s).keg.persist ≠ .clean := by
      simp only [hkeg, noteChange]
      split <;> simp_all
    rw [commitTrigger_of_idle hfollower hload (by simpa [hkeg, noteChange] using hc) hpending hpersist]
    simp [startCommit, Station.snapshot, hkeg, noteChange]
  · intro hc
    rw [commitTrigger_of_inFlight hfollower hload (by simpa [hkeg, noteChange] using hc)]

/-- Settles O12: the step end of R45 and R46, on the next step and on the final one. -/
theorem advanceStepEndsTheStep : Obligations.AdvanceStepEndsTheStep := by
  unfold Obligations.AdvanceStepEndsTheStep
  constructor
  · intro b s hadm hcalm hlock hb hend hn
    have hb' : (reserveEntry 3 s.station).keg.batch = some b := by simpa using hb
    have hcalm' : (reserveEntry 3 s.station).calm := by simpa [Station.calm, Station.tAvg] using hcalm
    have hstepped := stepBegun_commitTrigger (b := b) (s := reserveEntry 3 s.station) (by simpa using hadm.1.1.2.1)
      (by simpa using hadm.1.2) (by simpa using hadm.2)
    obtain ⟨-, hstate, hpour, -, hbatch, hcommit, hmark, hsecs, hband, hflag⟩ := stepEnd_keeps_calm hb' hcalm'
    obtain ⟨hbatch', hadvanced⟩ := stepEnd_next hb' hcalm' hn
    rw [endStep_next hb' hn] at hcommit hmark hsecs hband hflag
    refine ⟨_, b.advanced, act_powered hadm.1.1.1 _, rfl, ?_⟩
    simp only [State.on_station, advanceStep_accepted hadm hlock hb hend]
    refine ⟨?_, rfl, ?_, ?_, ?_, ?_, ?_, ?_, fillEntry_accept_replies (by simp), ?_⟩
    · simpa using hbatch'
    · simpa [stepBegun_times] using hsecs
    · simpa [stepBegun_times] using hband
    · exact hadvanced
    · intro hphase
      simpa [stepBegun_flag, hphase] using hflag .phaseChanged (by decide)
    · intro hc
      simpa using (hcommit.trans (hstepped.1 (by simpa using hc)))
    · intro hc
      have hne : (reserveEntry 3 s.station).keg.commit ≠ none := by simpa [← Option.isSome_iff_ne_none] using hc
      simpa using (hmark hne).trans (hstepped.2 (by simpa using hc))
    · simp [hstate, hpour]
  · intro b s hadm hcalm hlock hb hend hn
    have hb' : (reserveEntry 3 s.station).keg.batch = some b := by simpa using hb
    have hcalm' : (reserveEntry 3 s.station).calm := by simpa [Station.calm, Station.tAvg] using hcalm
    obtain ⟨-, hstate, -, -, -, -, -, -, -, hflag⟩ := stepEnd_keeps_calm hb' hcalm'
    obtain ⟨hbatch, hended⟩ := stepEnd_final hb' hcalm' hn
    refine ⟨_, act_powered hadm.1.1.1 _, rfl, ?_⟩
    simp only [State.on_station, advanceStep_accepted hadm hlock hb hend]
    refine ⟨by simpa using hbatch, ?_, by simpa using hended, ?_, fillEntry_accept_replies (by simp), ?_⟩
    · simp [Station.setpoint, Station.follower, hadm.2, hbatch, Batch.setpoint, Batch.step]
    · intro hadv
      have hres : (reserveEntry 3 s.station).flag .stepAdvanced = false := by simpa [Station.flag] using hadv
      have hwrite (r : Station) : (writeBatch (fun b => { b with programEnd := true }) r).flag .stepAdvanced =
          r.flag .stepAdvanced := by simp [Station.flag]
      rw [fillEntry_accept_flag, hflag _ (by decide), endStep_final hn, commitTrigger_flag, setFlag_flag, hwrite,
        closeChill_flag (by decide) (by decide), hres]
      rfl
    · simp [hstate]

/-! ## RUN_PROGRAM and PAUSE_PROGRAM -/

/-- A request that leaves the reply list is its effect with its reply. -/
theorem fillEntry_reserved (code : Nat) (s : Station) :
    fillEntry code (accept (reserveEntry code s)) = s.withReply code .ok := by
  simp [fillEntry, accept, reserveEntry, Station.withReply]

/-- A write of the run state, and none where it has its value (R8, R47). -/
theorem writeRun_eq {b : Batch} {s : Station} (hb : s.keg.batch = some b) (v : Bool) :
    writeRun v s = if b.run = v then s else noteChange { s with keg.batch := some { b with run := v } } := by
  by_cases h : b.run = v
  · subst h
    simp [writeRun, writeBatch, hb]
  · rw [if_neg h]
    exact writeBatch_of_change hb fun e => h (congrArg Batch.run e).symm

/-- Settles O13. -/
theorem runAndPauseWriteTheRunState : Obligations.RunAndPauseWriteTheRunState := by
  unfold Obligations.RunAndPauseWriteTheRunState
  intro b k s hadm hlock hb hk
  obtain ⟨⟨htakes, hrestart⟩, hrole⟩ := hadm
  have hb' (code : Nat) : (reserveEntry code s.station).keg.batch = some b := by simpa using hb
  have hrun (hh : s.station.exc.h = false) : exec (.runProgram []) s =
      .next ⟨fillEntry 4 (accept (writeRun true (reserveEntry 4 s.station))), s.pending⟩ := by
    refine (act_powered htakes.1 _).trans (next_congr ?_)
    refine takeRequest_accepted htakes rfl ?_
    simp [common, Station.restartPending, hrestart, Station.follower, hrole, Station.inLockout, hlock, hb, hh]
  have hpause : exec (.pauseProgram []) s =
      .next ⟨fillEntry 5 (accept (pauseProgram (reserveEntry 5 s.station))), s.pending⟩ := by
    refine (act_powered htakes.1 _).trans (next_congr ?_)
    refine takeRequest_accepted htakes rfl ?_
    simp [common, Station.restartPending, hrestart, Station.follower, hrole, Station.inLockout, hlock, hb]
  refine ⟨fun hh => ⟨fun hv => ?_, fun hv => ?_⟩, fun hn => ⟨fun hv => ?_, fun hv => ?_⟩, fun hheld => ?_⟩
  · rw [hrun hh, writeRun_eq (hb' 4), if_neg (by simp [hv]), hk]
    exact next_congr (fillEntry_reserved 4 { s.station with keg := _ })
  · rw [hrun hh, writeRun_eq (hb' 4), if_pos hv, fillEntry_reserved]
  · rw [hpause, pauseProgram, if_neg (by simp [hn]), writeRun_eq (hb' 5), if_neg (by simp [hv]), hk]
    exact next_congr (fillEntry_reserved 5 { s.station with keg := _ })
  · rw [hpause, pauseProgram, if_neg (by simp [hn]), writeRun_eq (hb' 5), if_pos hv, fillEntry_reserved]
  · rw [hpause, pauseProgram, if_pos (by simpa using hheld)]
    simp [fillEntry, accept, reserveEntry, Station.withReply]

end Sys2Proof.Machine
end

section
/-! PROOFS. Step time: the minute, the in-band time and the hour (R42 to R45, R76 to R79). -/
namespace Sys2Proof.Machine
open Sys2Proof

/-! ## The end test of a step -/

/-- After the program's end no step ends (R45). -/
theorem stepDue_of_ended {b : Batch} (he : b.programEnd = true) (log : List ActRec) : stepDue log b = false := by
  simp [stepDue, he]

/-- A step that is no HOLD with an activity threshold ends by its duration alone (R43). -/
theorem stepDue_by_duration {b : Batch} (he : b.programEnd = false) (hk : b.step.kind ≠ .hold ∨ b.step.threshold = none)
    (log : List ActRec) : stepDue log b = b.durationDone false := by
  simp only [stepDue, he, Bool.false_eq_true, if_false]
  split
  · simp_all
  · rfl

/-- The twelve newest records are all present and below the threshold (R43). -/
theorem activityQuiet_iff (log : List ActRec) (th : Nat) :
    activityQuiet log th = true ↔
      12 ≤ log.length ∧ ∀ r ∈ log.drop (log.length - 12), r.activity.any (decide <| · < th) = true := by
  simp only [activityQuiet, newest12, Bool.and_eq_true, decide_eq_true_eq, List.all_eq_true]
  refine and_congr_right fun _ => forall₂_congr fun r _ => ?_
  cases r.activity <;> simp

/-- The duration is absent or has run (R43). -/
theorem Batch.durationDone_true_iff (b : Batch) :
    b.durationDone true = true ↔ b.step.duration = none ∨ b.step.duration.getD 0 ≤ b.stepMin := by
  unfold Batch.durationDone
  cases b.step.duration <;> simp

/-- A HOLD with an activity threshold ends where both hold (R43). -/
theorem stepDue_by_activity {b : Batch} {th : Nat} (he : b.programEnd = false) (hk : b.step.kind = .hold)
    (ht : b.step.threshold = some th) (log : List ActRec) :
    stepDue log b = true ↔
      (b.step.duration = none ∨ b.step.duration.getD 0 ≤ b.stepMin) ∧ 12 ≤ log.length ∧
        ∀ r ∈ log.drop (log.length - 12), r.activity.any (decide <| · < th) = true := by
  rw [← activityQuiet_iff, ← b.durationDone_true_iff]
  simp [stepDue, he, hk, ht]

/-! ## The minute -/

/-- The batch a minute later (R42). -/
def Batch.minuteOn (b : Batch) : Batch := { b with stepMin := satAdd Config.top16 b.stepMin 1 }

theorem riseMinute_batch {b : Batch} {s : Station} (hb : s.keg.batch = some b) :
    (riseMinute s).keg.batch = some b.minuteOn := by
  simp [riseMinute, writeBatch_batch, hb, Batch.minuteOn]

theorem riseMinute_secs (s : Station) : (riseMinute s).prog.secs = 0 := by
  simp [riseMinute]

/-- As `withSetpoint_calm`, for an effect whose result is known. -/
theorem withSetpoint_calm_of {f : Station → Station} {s r : Station} (h : f s = r) (hc : r.calm) :
    ∃ o u m, withSetpoint f s = { r with exc.overS := o, exc.underS := u, keg.pendingMark := m } := by
  subst h
  exact withSetpoint_calm hc

/-- A minute of step time on a station with nothing to report: the elapsed minutes rise, and a step that is due ends. -/
theorem stepMinute_calm {b : Batch} {s : Station} (hb : s.keg.batch = some b) (hh : s.exc.h = false) (hr : b.run = true)
    (hc : s.calm) :
    ∃ o u m, stepMinute s =
      { stepEndIf (stepDue s.press.log b.minuteOn) (riseMinute s) with
        exc.overS := o, exc.underS := u, keg.pendingMark := m } := by
  have hb' := riseMinute_batch hb
  have hcalm : (riseMinute s).calm := by simpa [Station.calm, Station.tAvg] using hc
  have hend : (stepEndIf (stepDue s.press.log b.minuteOn) (riseMinute s)).calm := by
    unfold stepEndIf
    split
    · exact (stepEnd_keeps_calm hb' hcalm).1
    · exact hcalm
  have hcounts : s.stepTimeCounts = true := by simp [Station.stepTimeCounts, hb, hr, hh]
  unfold stepMinute
  rw [if_pos hcounts]
  exact withSetpoint_calm_of (by simp [hb']) hend

/-- What a minute brings where no step is due. -/
theorem stepMinute_goes_on {b : Batch} {s : State} (hp : s.station.powered = true) (hb : s.station.keg.batch = some b)
    (hh : s.station.exc.h = false) (hr : b.run = true) (hc : s.station.calm)
    (hdue : stepDue s.station.press.log b.minuteOn = false) :
    ∃ t, exec .stepMinuteRise s = .next t ∧ t.pending = s.pending ∧ t.station.keg.batch = some b.minuteOn ∧
      t.station.prog.secs = 0 ∧ t.station.exc.state = s.station.exc.state ∧ t.station.pour = s.station.pour ∧
      t.station.press = s.station.press ∧ t.station.pools = s.station.pools ∧ t.station.nv = s.station.nv := by
  obtain ⟨o, u, m, e⟩ := stepMinute_calm hb hh hr hc
  refine ⟨_, act_powered hp _, rfl, ?_⟩
  simp [e, hdue, stepEndIf, riseMinute_batch hb, riseMinute_secs]

/-- What a minute brings where the step is due and is not the final one (R45). -/
theorem stepMinute_next {b : Batch} {s : State} (hp : s.station.powered = true) (hb : s.station.keg.batch = some b)
    (hh : s.station.exc.h = false) (hr : b.run = true) (hc : s.station.calm)
    (hdue : stepDue s.station.press.log b.minuteOn = true) (hn : b.stepIdx + 1 < b.profile.length) :
    ∃ t, exec .stepMinuteRise s = .next t ∧ t.pending = s.pending ∧
      t.station.keg.batch = some b.minuteOn.advanced ∧ t.station.flag .stepAdvanced = true ∧
      t.station.exc.state = s.station.exc.state := by
  obtain ⟨o, u, m, e⟩ := stepMinute_calm hb hh hr hc
  have hcalm : (riseMinute s.station).calm := by simpa [Station.calm, Station.tAvg] using hc
  obtain ⟨hbatch, hflag⟩ := stepEnd_next (riseMinute_batch hb) hcalm hn
  have hstate := (stepEnd_keeps_calm (riseMinute_batch hb) hcalm).2.1
  refine ⟨_, act_powered hp _, rfl, ?_⟩
  simp only [State.on_station, e, hdue, stepEndIf, if_true]
  exact ⟨hbatch, hflag, by simpa using hstate⟩

/-- What a minute brings where the final step is due (R45). -/
theorem stepMinute_final {b : Batch} {s : State} (hp : s.station.powered = true) (hb : s.station.keg.batch = some b)
    (hh : s.station.exc.h = false) (hr : b.run = true) (hc : s.station.calm)
    (hdue : stepDue s.station.press.log b.minuteOn = true) (hn : b.profile.length ≤ b.stepIdx + 1) :
    ∃ t, exec .stepMinuteRise s = .next t ∧ t.pending = s.pending ∧
      t.station.keg.batch = some { b.minuteOn with programEnd := true } ∧ t.station.flag .programEnd = true ∧
      t.station.exc.state = s.station.exc.state := by
  obtain ⟨o, u, m, e⟩ := stepMinute_calm hb hh hr hc
  have hcalm : (riseMinute s.station).calm := by simpa [Station.calm, Station.tAvg] using hc
  obtain ⟨hbatch, hflag⟩ := stepEnd_final (riseMinute_batch hb) hcalm hn
  have hstate := (stepEnd_keeps_calm (riseMinute_batch hb) hcalm).2.1
  refine ⟨_, act_powered hp _, rfl, ?_⟩
  simp only [State.on_station, e, hdue, stepEndIf, if_true]
  exact ⟨hbatch, hflag, by simpa using hstate⟩

/-- The in-band time brought to its end (R44). -/
def crashReached (s : Station) : Station :=
  { s with prog.inBandS := max s.prog.inBandS Config.crashInBandS }

/-- The in-band expiry of a running CRASH is a step end (R44). -/
theorem crashInBand_ends {b : Batch} {s : Station} (hb : s.keg.batch = some b) (hh : s.exc.h = false)
    (hr : b.run = true) (he : b.programEnd = false) (hk : b.step.kind = .crash) (hband : 0 < s.prog.inBandS) :
    crashInBand s = stepEnd (crashReached s) := by
  have hruns : s.crashRuns = true := by
    simp [Station.crashRuns, Station.crashCounts, Station.stepTimeCounts, hb, hr, hh, hk, he]
  simp [crashInBand, crashReached, hruns, hband]

/-- Settles O50: the end test of R43 decides between the minute that goes on and the step end of R45. -/
theorem minutesRunTheSteps : Obligations.MinutesRunTheSteps := by
  unfold Obligations.MinutesRunTheSteps
  intro b b' s hp hb hh hc hr hb'
  change b' = b.minuteOn at hb'
  subst hb'
  refine ⟨fun hnot => ?_, fun d hd he hk hle => ?_, fun th ht he hk hquiet => ?_, fun th ht he hk hnot => ?_,
    fun he hk hband => ?_⟩
  · refine stepMinute_goes_on hp hb hh hr hc ?_
    rcases hnot with he | ⟨hk, hdur⟩
    · exact stepDue_of_ended (b := b.minuteOn) he _
    · cases he : b.programEnd
      · rw [stepDue_by_duration (b := b.minuteOn) he hk]
        change b.minuteOn.step.duration.all _ = true at hdur
        unfold Batch.durationDone
        split <;> simp_all
      · exact stepDue_of_ended (b := b.minuteOn) he _
  · have hdue : stepDue s.station.press.log b.minuteOn = true := by
      rw [stepDue_by_duration (b := b.minuteOn) he hk]
      have hd' : b.minuteOn.step.duration = some d := hd
      simpa [Batch.durationDone, hd'] using hle
    exact ⟨stepMinute_next hp hb hh hr hc hdue, stepMinute_final hp hb hh hr hc hdue⟩
  · have hdue := (stepDue_by_activity (b := b.minuteOn) he hk ht s.station.press.log).mpr hquiet
    exact ⟨stepMinute_next hp hb hh hr hc hdue, stepMinute_final hp hb hh hr hc hdue⟩
  · have hdue : stepDue s.station.press.log b.minuteOn = false := by
      rw [← Bool.not_eq_true, stepDue_by_activity (b := b.minuteOn) he hk ht]
      exact hnot
    obtain ⟨t, ht, hpend, hbatch, hsecs, hstate, -, hpress, -⟩ := stepMinute_goes_on hp hb hh hr hc hdue
    exact ⟨t, ht, hpend, hbatch, hsecs, hstate, hpress⟩
  · have hcrash := crashInBand_ends hb hh hr he hk hband
    have hstate := (stepEnd_keeps_calm (s := crashReached s.station) hb hc).2.1
    refine ⟨fun hn => ⟨_, act_powered hp _, rfl, ?_⟩, fun hn => ⟨_, act_powered hp _, rfl, ?_⟩⟩
    · obtain ⟨hbatch, hflag⟩ := stepEnd_next (s := crashReached s.station) hb hc hn
      rw [State.on_station, hcrash]
      exact ⟨hbatch, hflag, hstate⟩
    · obtain ⟨hbatch, hflag⟩ := stepEnd_final (s := crashReached s.station) hb hc hn
      rw [State.on_station, hcrash]
      exact ⟨hbatch, hflag, hstate⟩

/-! ## The hour -/

/-- The number of the hour that begins (R77). -/
def Station.nextHour (s : Station) : Nat := if s.press.hourCount = Config.top16 then 1 else s.press.hourCount + 1

/-- The record of the hour that ends (R77). -/
def Station.hourRecord (s : Station) : ActRec :=
  { hour := s.nextHour, mode := s.press.lastMode, activity := if s.press.wholeSpund then some s.press.acc else none }

/-- The hour counted and its record logged, before the estimate (R77). -/
def hourLogged (s : Station) : Station :=
  { s with
    press.hourClock := 0
    press.hourCount := s.nextHour
    press.log := joinActivity s.hourRecord s.press.log }

/-- The marks of the hour that begins (R76, R78). -/
def hourBegun (s : Station) : Station :=
  { s with press.acc := 0, press.wholeSpund := true, press.eqMark := true, press.tHi := none, press.tLo := none }

/-- The estimate is a write of its own field (R79). -/
theorem writeEstimate_batch {b : Batch} {s : Station} (hb : s.keg.batch = some b) :
    ∃ x, (writeEstimate s).keg.batch = some { b with est := x } := by
  unfold writeEstimate
  split
  · exact ⟨_, hb⟩
  · split
    · exact ⟨_, by rw [writeBatch_batch, hb]; rfl⟩
    · exact ⟨_, hb⟩

/-- An hour without its equilibrium mark writes no estimate (R79). -/
theorem writeEstimate_of_no_mark {s : Station} (h : s.press.eqMark = false) : writeEstimate s = s := by
  unfold writeEstimate
  split <;> simp [h]

/-- An hour with its mark writes the estimate of its last period (R79). -/
theorem writeEstimate_of_mark {b : Batch} {x : Int} {s : Station} (hb : s.keg.batch = some b)
    (hx : s.press.lastT = some x)
    (h : s.press.eqMark = true) :
    (writeEstimate s).keg.batch =
      some { b with est := some (carbEstimate (s.press.lastP + s.start.setup.pa) (solubility x)) } := by
  simp [writeEstimate, hx, h, writeBatch_batch, hb]

/-- An hour's end with a batch, on a station that keeps its log (R77, R79): the step end where the test finds it due. -/
theorem hourEnd_eq {b : Batch} {s : Station} (hon : s.press.on = true) (hrole : s.start.role ≠ .follower)
    (hb : s.keg.batch = some b) :
    ∃ x, (writeEstimate (hourLogged s)).keg.batch = some { b with est := x } ∧
      hourEnd s = hourBegun (stepEndIf
        ((writeEstimate (hourLogged s)).stepTimeCounts && b.step.kind == .hold && b.step.threshold.isSome &&
          stepDue (joinActivity s.hourRecord s.press.log) { b with est := x })
        (writeEstimate (hourLogged s))) := by
  obtain ⟨x, hx⟩ := writeEstimate_batch (s := hourLogged s) (b := b) hb
  refine ⟨x, hx, ?_⟩
  have hlog : (writeEstimate (hourLogged s)).press.log = joinActivity s.hourRecord s.press.log := by simp [hourLogged]
  unfold hourEnd logHour
  rw [if_pos hon]
  dsimp only
  split
  · next h => simp [hb] at h
  · rw [if_neg (by simp [Station.follower, hrole])]
    split
    · next h => exact absurd (h.symm.trans hx) (by simp)
    · next b' h =>
        obtain rfl : b' = { b with est := x } := Option.some.inj (h.symm.trans hx)
        rw [← hlog]
        rfl

/-- Without the equilibrium mark the record stays as it is, and the test reads it so. -/
theorem hourEnd_of_no_mark {b : Batch} {s : Station} (hon : s.press.on = true) (hrole : s.start.role ≠ .follower)
    (hb : s.keg.batch = some b) (hm : s.press.eqMark = false) :
    hourEnd s = hourBegun (stepEndIf
      ((hourLogged s).stepTimeCounts && b.step.kind == .hold && b.step.threshold.isSome &&
        stepDue (joinActivity s.hourRecord s.press.log) b) (hourLogged s)) := by
  obtain ⟨x, hx, e⟩ := hourEnd_eq hon hrole hb
  rw [writeEstimate_of_no_mark (s := hourLogged s) hm] at hx e
  obtain hxb : b = { b with est := x } := Option.some.inj (hb.symm.trans hx)
  rw [e, ← hxb]

/-- Step time counts as the batch and H have it (R42). -/
theorem Station.stepTimeCounts_of_batch {b : Batch} {s : Station} (hb : s.keg.batch = some b) :
    s.stepTimeCounts = (b.run && !s.exc.h) := by
  simp [Station.stepTimeCounts, hb]

/-- Settles O54: the hour is logged, its estimate written, and a due HOLD step with an activity threshold ends. -/
theorem hourEndLogsTheHour : Obligations.HourEndLogsTheHour := by
  unfold Obligations.HourEndLogsTheHour
  intro b n l s hp hon hrole hb hn hl
  change n = s.station.nextHour at hn
  subst hn
  change l = joinActivity s.station.hourRecord s.station.press.log at hl
  refine ⟨fun hnot => ?_, fun th ht hr hh he hk hmark hc => ?_⟩
  · obtain ⟨x, hx, heq⟩ := hourEnd_eq hon hrole hb
    have hcounts : (writeEstimate (hourLogged s.station)).stepTimeCounts = (b.run && !s.station.exc.h) := by
      rw [Station.stepTimeCounts_of_batch hx]
      simp [hourLogged]
    have hno : ((b.run && !s.station.exc.h) && b.step.kind == .hold && b.step.threshold.isSome &&
        stepDue l { b with est := x }) = false := by
      rcases hnot with h | h | h | h
      · simp [h]
      · simp [h]
      · simp [h]
      · simp [stepDue_of_ended (b := { b with est := x }) h]
    rw [← hl, hcounts, hno, stepEndIf, if_neg (by simp)] at heq
    refine ⟨_, act_powered hp _, rfl, ?_⟩
    simp only [State.on_station, heq, hl]
    refine ⟨?_, ?_, ?_, rfl, rfl, rfl, rfl, rfl, fun hmark => ?_, fun y hy hmark => ?_, ?_⟩
    · simp [hourBegun, hourLogged]
    · simp [hourBegun, hourLogged]
    · simp [hourBegun, hourLogged]
    · rw [writeEstimate_of_no_mark (s := hourLogged s.station) hmark]
      rfl
    · exact writeEstimate_of_mark (s := hourLogged s.station) hb hy hmark
    · simp [hourBegun, hourLogged]
  · have heq := hourEnd_of_no_mark hon hrole hb hmark
    have hb' : (hourLogged s.station).keg.batch = some b := hb
    have hc' : (hourLogged s.station).calm := hc
    rw [← hl, Station.stepTimeCounts_of_batch hb'] at heq
    have hcond : ((b.run && !(hourLogged s.station).exc.h) && b.step.kind == .hold && b.step.threshold.isSome &&
        stepDue l b) = stepDue l b := by
      have hh' : (hourLogged s.station).exc.h = false := hh
      simp [hr, hh', hk, ht]
    rw [hcond] at heq
    rw [← stepDue_by_activity he hk ht l]
    refine ⟨fun hdue hnext => ?_, fun hdue => ?_⟩
    · obtain ⟨-, hstate, -, hlog, -⟩ := stepEnd_keeps_calm hb' hc'
      obtain ⟨hbatch, hflag⟩ := stepEnd_next hb' hc' hnext
      refine ⟨_, act_powered hp _, rfl, ?_⟩
      simp only [State.on_station, heq, hdue, stepEndIf, if_true]
      exact ⟨hlog.trans hl.symm, hbatch, hflag, hstate⟩
    · refine ⟨_, act_powered hp _, rfl, ?_⟩
      simp only [State.on_station, heq, stepEndIf, if_neg hdue]
      exact ⟨hl.symm, rfl, rfl⟩

end Sys2Proof.Machine
end

section
/-! PROOFS. The valve cycle: the events that change an output within it, and the control period (R48 to R58). -/
namespace Sys2Proof.Machine
open Sys2Proof

/-! ## Within a cycle -/

/-- The time of the cycle goes on with the outputs as they are (R179). -/
@[simp] theorem cycleReaches_outputs (n : Nat) (s : Station) :
    (cycleReaches n s).prog.glycol = s.prog.glycol ∧ (cycleReaches n s).prog.heater = s.prog.heater ∧
    (cycleReaches n s).prog.bayC = s.prog.bayC ∧ (cycleReaches n s).prog.bayH = s.prog.bayH ∧
    (cycleReaches n s).prog.driveC = s.prog.driveC ∧ (cycleReaches n s).prog.driveH = s.prog.driveH := by
  simp only [cycleReaches]
  split <;> simp

/-- Settles O49. -/
theorem cycleEventsMoveTheOutputs : Obligations.CycleEventsMoveTheOutputs := by
  unfold Obligations.CycleEventsMoveTheOutputs
  intro m s hp
  refine ⟨fun hm => ⟨?_, ?_⟩, fun hg => ?_, fun hh => ?_, fun hm hr => ?_, fun hm hr => ?_, fun n hn => ?_⟩
  · exact act_same (filtered_short hm _ _)
  · exact act_same (filtered_short hm _ _)
  · refine ⟨_, act_powered hp _, rfl, ?_⟩
    simp [glycolTimeEnd, hg]
  · refine ⟨_, act_powered hp _, rfl, ?_⟩
    simp [heaterTimeEnd, hh]
  · refine (act_powered hp _).trans (next_congr ?_)
    simp [filtered_taken hm, chillRdyOn, hr]
  · refine (act_powered hp _).trans (next_congr ?_)
    simp [filtered_taken hm, chillRdyOff, hr]
  · refine ⟨_, act_powered hp _, rfl, ?_⟩
    have htop : 1200000 ≤ max n 1200000 := Nat.le_max_right _ _
    simp only [State.on_station, starvation, hn, starvedTest, Config.starvationMs, htop, true_and]
    refine ⟨by simp, fun hd => ?_, fun hd => ?_, by simp⟩
    · simp [hd]
    · simp [hd, setFlagIf]

/-! ## Postings -/

@[simp] theorem Claim.norm_demand (c : Claim) : c.norm.demand = c.demand := by
  unfold Claim.norm
  split <;> simp_all

@[simp] theorem Claim.norm_norm (c : Claim) : c.norm.norm = c.norm := by
  unfold Claim.norm
  split <;> simp_all

/-- A claim posted: its class is IDLE at demand 0 (R85). -/
theorem Claim.norm_mk (n : Nat) (c : Cls) : Claim.norm ⟨n, c⟩ = ⟨n, if n = 0 then .idle else c⟩ := by
  unfold Claim.norm
  split <;> simp_all

/-- A grant acts on no pool's claims. -/
@[simp] theorem applyGrant_claims (p q : Pool) (g : Nat) (s : Station) :
    ((applyGrant p g s).item q).posted = (s.item q).posted ∧ ((applyGrant p g s).item q).own = (s.item q).own := by
  have hpools (a b : Nat) (r : Station) : (handOn p a b r).item q = r.item q := by simp [Station.item]
  by_cases h : q = p
  · subst h
    simp [applyGrant, hpools]
  · simp [applyGrant, hpools, Station.item_setItem_other _ _ h]

@[simp] theorem recompute_claims (p q : Pool) (s : Station) :
    ((recompute p s).item q).posted = (s.item q).posted ∧ ((recompute p s).item q).own = (s.item q).own := by
  unfold recompute
  split <;> simp

/-- An own claim taken is the pool's own claim (R85). -/
theorem setOwn_own (p : Pool) (c : Claim) (s : Station) : ((setOwn p c s).item p).own = c := by
  unfold setOwn
  dsimp only
  split
  · assumption
  · simp

@[simp] theorem setOwn_posted (p q : Pool) (c : Claim) (s : Station) :
    ((setOwn p c s).item q).posted = (s.item q).posted := by
  unfold setOwn
  dsimp only
  split
  · rfl
  · by_cases h : q = p
    · subst h
      simp
    · simp [Station.item_setItem_other _ _ h]

theorem setOwn_own_other {p q : Pool} (h : q ≠ p) (c : Claim) (s : Station) :
    ((setOwn p c s).item q).own = (s.item q).own := by
  unfold setOwn
  dsimp only
  split
  · rfl
  · simp [Station.item_setItem_other _ _ h]

/-- A posting of one pool (R85): what is posted, and the own claim that follows. -/
theorem postOne_claims (p : Pool) (c : Claim) (s : Station) :
    ((postOne p c s).item p).posted = c.norm ∧ ((postOne p c s).item p).own = s.effective c.norm := by
  simp [postOne, setOwn_own]

theorem postOne_claims_other {p q : Pool} (h : q ≠ p) (c : Claim) (s : Station) :
    ((postOne p c s).item q).posted = (s.item q).posted ∧ ((postOne p c s).item q).own = (s.item q).own := by
  simp [postOne, setOwn_own_other h, Station.item_setItem_other _ _ h]

/-- The hold of a follower reads the straps and the peer view alone (R105). -/
theorem followHold_congr {s t : Station} (hs : t.start = s.start) (hp : t.pools.peers = s.pools.peers) :
    t.followHold = s.followHold := by
  simp [Station.followHold, Station.follower, Station.peer?, Station.partnerId, hs, hp]

/-- What a posting of the program leaves posted and owned (R85). -/
theorem postProgram_claims (h c : Claim) (s : Station) :
    (postProgram h c s).pools.items.heat.posted = h.norm ∧ (postProgram h c s).pools.items.chill.posted = c.norm ∧
      (postProgram h c s).pools.items.chill.own = s.effective c.norm := by
  have hheat := postOne_claims_other (p := .chill) (q := .heat) (by decide) c (postOne .heat h s)
  have hchill := postOne_claims .chill c (postOne .heat h s)
  have heff (x : Claim) : (postOne .heat h s).effective x = s.effective x := by
    simp [Station.effective, followHold_congr (s := s) (t := postOne .heat h s) (by simp) (by simp)]
  simp only [postProgram, afterPosting_frame]
  exact ⟨hheat.1.trans (postOne_claims .heat h s).1, hchill.1, hchill.2.trans (heff _)⟩

/-- From `p` to `q` no thermal output opens, and off the vessel rules the pair drive stays (R54, R56). -/
structure Prog.Quieter (p q : Prog) : Prop where
  vessel : q.vessel = p.vessel
  drive : p.vessel = false → q.driveC = p.driveC ∧ q.driveH = p.driveH
  glycol : q.glycol = true → p.glycol = true
  heater : q.heater = true → p.heater = true

/-- The same, with the demands last posted as they were. -/
structure Prog.Lowered (p q : Prog) : Prop extends Prog.Quieter p q where
  bayC : q.bayC = p.bayC
  bayH : q.bayH = p.bayH

theorem Prog.Quieter.of_eq {p q : Prog} (h : q = p) : p.Quieter q := by
  subst h
  exact ⟨rfl, fun _ => ⟨rfl, rfl⟩, id, id⟩

theorem Prog.Lowered.of_eq {p q : Prog} (h : q = p) : p.Lowered q := ⟨.of_eq h, by rw [h], by rw [h]⟩

theorem Prog.Quieter.trans {p q r : Prog} (h : p.Quieter q) (k : q.Quieter r) : p.Quieter r where
  vessel := k.vessel.trans h.vessel
  drive hv :=
    have hq := k.drive (h.vessel.trans hv)
    ⟨hq.1.trans (h.drive hv).1, hq.2.trans (h.drive hv).2⟩
  glycol := h.glycol ∘ k.glycol
  heater := h.heater ∘ k.heater

theorem Prog.Lowered.trans {p q r : Prog} (h : p.Lowered q) (k : q.Lowered r) : p.Lowered r :=
  ⟨h.toQuieter.trans k.toQuieter, k.bayC.trans h.bayC, k.bayH.trans h.bayH⟩

theorem setGlycolTime_lowered (t : Nat) (s : Station) : s.prog.Lowered (setGlycolTime t s).prog :=
  ⟨⟨rfl, fun _ => ⟨rfl, rfl⟩, fun h => (Bool.and_eq_true_iff.mp h).1, id⟩, rfl, rfl⟩

theorem setHeaterTime_lowered (t : Nat) (s : Station) : s.prog.Lowered (setHeaterTime t s).prog :=
  ⟨⟨rfl, fun _ => ⟨rfl, rfl⟩, id, fun h => (Bool.and_eq_true_iff.mp h).1⟩, rfl, rfl⟩

theorem setPairDrive_lowered (s : Station) : s.prog.Lowered (setPairDrive s).prog := by
  unfold setPairDrive
  split
  · next h => exact ⟨⟨rfl, fun hv => absurd hv (by simp [h]), id, id⟩, rfl, rfl⟩
  · exact .of_eq rfl

/-- A change of in-use opens no thermal output (R54). -/
theorem handOn_lowered (p : Pool) (a b : Nat) (s : Station) : s.prog.Lowered (handOn p a b s).prog := by
  cases p
  case heat =>
    simp only [handOn, heatFalls]
    split
    · split
      · exact .of_eq rfl
      · exact (setHeaterTime_lowered _ s).trans (setPairDrive_lowered _)
    · exact .of_eq rfl
  case chill =>
    simp only [handOn, chillFalls]
    split
    · split
      · exact .of_eq rfl
      · exact (setGlycolTime_lowered _ s).trans (setPairDrive_lowered _)
    · exact .of_eq rfl
  case gas =>
    simp only [handOn]
    split
    · exact .of_eq rfl
    · exact .of_eq (by simp)

theorem applyGrant_lowered (p : Pool) (g : Nat) (s : Station) : s.prog.Lowered (applyGrant p g s).prog :=
  handOn_lowered p _ _ (s.setItem p _)

theorem recompute_lowered (p : Pool) (s : Station) : s.prog.Lowered (recompute p s).prog := by
  unfold recompute
  split
  · exact .of_eq rfl
  · exact applyGrant_lowered _ _ _

theorem setOwn_lowered (p : Pool) (c : Claim) (s : Station) : s.prog.Lowered (setOwn p c s).prog := by
  unfold setOwn
  dsimp only
  split
  · exact .of_eq rfl
  · exact recompute_lowered p (s.setItem p _)

theorem postOne_lowered (p : Pool) (c : Claim) (s : Station) : s.prog.Lowered (postOne p c s).prog :=
  setOwn_lowered p _ (s.setItem p _)

/-- A posting opens no thermal output (R52, R54). -/
theorem postProgram_lowered (h c : Claim) (s : Station) : s.prog.Lowered (postProgram h c s).prog := by
  simp only [postProgram, afterPosting_frame]
  exact (postOne_lowered .heat h s).trans (postOne_lowered .chill c _)

/-- The demands posted are those last posted (R49, R50). -/
theorem postDemands_bay (s : Station) :
    (postDemands s).prog.bayC = (bayDemands s).2.demand ∧ (postDemands s).prog.bayH = (bayDemands s).1.demand := by
  unfold postDemands
  dsimp only
  split
  · exact ⟨(postProgram_lowered _ _ _).bayC, (postProgram_lowered _ _ _).bayH⟩
  · exact ⟨(postProgram_lowered _ _ _).bayC, (postProgram_lowered _ _ _).bayH⟩

/-- What the program posts (R48, R56): the demands, or twice them for the vessel. -/
theorem postDemands_claims {s : Station} (hf : s.followHold = false) :
    (postDemands s).pools.items.heat.posted =
        (if s.prog.vessel then (bayDemands s).1.twice.norm else (bayDemands s).1.norm) ∧
      (postDemands s).pools.items.chill.posted =
        (if s.prog.vessel then (bayDemands s).2.twice.norm else (bayDemands s).2.norm) ∧
      (postDemands s).pools.items.chill.own = (postDemands s).pools.items.chill.posted := by
  have heff (r : Station) (hs : r.start = s.start) (hp : r.pools.peers = s.pools.peers) (x : Claim) :
      r.effective x = x := by
    simp [Station.effective, followHold_congr hs hp, hf]
  unfold postDemands
  dsimp only
  split
  all_goals
    refine ⟨(postProgram_claims _ _ _).1, (postProgram_claims _ _ _).2.1, ?_⟩
    rw [(postProgram_claims _ _ _).2.1, (postProgram_claims _ _ _).2.2]
    exact heff _ rfl rfl _

end Sys2Proof.Machine
end

section
/-! PROOFS. The control period: the demands of the tables, the times of a cycle, and what the pair does at its start
(R48 to R58). -/
namespace Sys2Proof.Machine
open Sys2Proof

/-! ## The demands -/

/-- The freeze guard's limit in eighths, 8 where there is none (R49). -/
def Station.freezeLimit (s : Station) : Nat :=
  match s.jacketT with
  | none => 4
  | some j => if j < -10 then 2 else if s.sense.jacket.state = .failed then 4 else 8

/-- The freeze guard limits a demand of at most eight eighths (R49). -/
theorem freezeCap_eq_min (s : Station) {c : Nat} (h : c ≤ 8) : freezeCap s c = min s.freezeLimit c := by
  unfold freezeCap Station.freezeLimit
  cases s.jacketT with
  | none => exact Nat.min_comm _ _
  | some j =>
      by_cases hj : j < -10
      · simp [hj, Nat.min_comm]
      · by_cases hp : s.sense.jacket.state = .failed
        · simp [hj, hp, Nat.min_comm]
        · simp [hj, hp, h]

theorem coolDemand_le (db cPrev : Nat) (e : Int) : coolDemand db cPrev e ≤ 8 := by
  unfold coolDemand
  (repeat' split) <;> omega

/-- One kind at most is active (R161). -/
theorem Station.holdFor_other {s : Station} {k : FaultKind} (h : s.holdFor k = true) {j : FaultKind} (hj : j ≠ k) :
    s.holdFor j = false := by
  simp only [Station.holdFor, Bool.and_eq_true, beq_iff_eq] at h
  simp [Station.holdFor, h.2, Ne.symm hj]

/-- The heating demand under the active excursion (R52). -/
def Station.heatFor (s : Station) (e : Int) : Nat :=
  if s.inLockout || s.holdFor .kegLost || s.holdFor .overtemp || s.holdFor .probeLost then 0
  else heatDemand s.start.setup.db s.start.setup.hmax s.prog.hPrev e

/-- The cooling demand under the freeze guard and the active excursion (R49, R52). -/
def Station.coolFor (s : Station) (e : Int) : Nat :=
  if s.inLockout || s.holdFor .kegLost || s.holdFor .undertemp then 0
  else if s.holdFor .probeLost then min s.freezeLimit 2
  else min s.freezeLimit (coolDemand s.start.setup.db s.prog.cPrev e)

/-- The demands of the tables, adjusted for the active excursion, with their classes (R48 to R52). -/
theorem bayDemands_eq {s : Station} {x sp : Int} (hl : s.prog.leadHeard = false) (hx : s.controlT = some x)
    (hsp : s.setpoint = some sp) :
    bayDemands s =
      (Claim.norm ⟨s.heatFor (x - sp), if s.holdFor .undertemp then .recover else s.errorClass (x - sp)⟩,
        Claim.norm ⟨s.coolFor (x - sp),
          if s.holdFor .overtemp then .recover
          else if s.holdFor .probeLost then .hold
          else s.errorClass (x - sp)⟩) := by
  have h0 (c : Cls) : Claim.norm ⟨0, c⟩ = {} := rfl
  simp only [bayDemands, hsp, hl, hx, Station.heatFor, Station.coolFor, Bool.or_false]
  by_cases hoff : (s.inLockout || s.holdFor .kegLost) = true
  · simp [hoff, h0]
  · obtain ⟨hlock, hkeg⟩ : s.inLockout = false ∧ s.holdFor .kegLost = false := by simpa using hoff
    by_cases hprobe : s.holdFor .probeLost = true
    · have hother (j : FaultKind) (hj : j ≠ .probeLost) := Station.holdFor_other hprobe hj
      simp [hlock, hprobe, hother, h0, freezeCap_eq_min]
    · by_cases hunder : s.holdFor .undertemp = true
      · have hother (j : FaultKind) (hj : j ≠ .undertemp) := Station.holdFor_other hunder hj
        simp [hlock, hunder, hother, h0]
      · simp [hlock, hkeg, hprobe, hunder, freezeCap_eq_min _ (coolDemand_le _ _ _)]

/-- With no setpoint nothing is demanded (R48). -/
theorem bayDemands_of_no_setpoint {s : Station} (h : s.setpoint = none) : bayDemands s = ({}, {}) := by
  simp [bayDemands, h]

/-- The class of an error as one condition (R51). -/
theorem Station.errorClass_eq (s : Station) (e : Int) :
    s.errorClass e =
      if (s.keg.batch.any fun b => b.step.kind != .hold && !b.programEnd) ||
          decide (s.start.setup.db + 10 < e.natAbs) then
        .pull
      else .hold := by
  have hslope : s.onSlope = s.keg.batch.any fun b => b.step.kind != .hold && !b.programEnd := by
    unfold Station.onSlope
    cases s.keg.batch <;> rfl
  unfold Station.errorClass
  rw [← hslope]
  by_cases h : s.onSlope = true <;> simp [h]

/-! ## The cycle's start -/

/-- A cycle that starts from in-use (R53, R56). -/
theorem startCycle_own {s : Station} (h : s.prog.pair ≠ .following) :
    (startCycle s).prog =
      { s.prog with
        cycleMs := 0
        gated := !s.sense.chillRdy
        glycolMs := min Config.cycleMs (s.ownPart s.pools.items.chill.inUse * Config.eighthMs)
        heaterMs := s.heaterTime (s.ownPart s.pools.items.heat.inUse)
        glycol :=
          decide (0 < min Config.cycleMs (s.ownPart s.pools.items.chill.inUse * Config.eighthMs)) && s.sense.chillRdy &&
            !s.inLockout
        heater := decide (0 < s.heaterTime (s.ownPart s.pools.items.heat.inUse)) && !s.inLockout
        driveC := if s.prog.vessel then s.pools.items.chill.inUse / 2 else s.prog.driveC
        driveH := if s.prog.vessel then s.pools.items.heat.inUse / 2 else s.prog.driveH } := by
  cases hv : s.prog.vessel <;>
    simp [startCycle, starvedTest, cycleTimes, setPairDrive, h, hv, Station.ownPart, Station.heaterTime,
      Station.inLockout]

/-- A cycle of a FOLLOWING follower starts from the pair drive it holds (R57). -/
theorem startCycle_following {s : Station} (h : s.prog.pair = .following) (hv : s.prog.vessel = false) :
    (startCycle s).prog =
      { s.prog with
        cycleMs := 0
        gated := !s.sense.chillRdy
        appliedC := freezeCap s s.prog.driveC
        appliedH := s.prog.driveH
        glycolMs := min Config.cycleMs (freezeCap s s.prog.driveC * Config.eighthMs)
        heaterMs := s.heaterTime s.prog.driveH
        glycol :=
          decide (0 < min Config.cycleMs (freezeCap s s.prog.driveC * Config.eighthMs)) && s.sense.chillRdy &&
            !s.inLockout
        heater := decide (0 < s.heaterTime s.prog.driveH) && !s.inLockout } := by
  simp only [startCycle, starvedTest, setFlagIf_frame, cycleTimes, h, if_true, setPairDrive, hv, Bool.false_eq_true,
    if_false]
  rfl

/-! ## What a period does before it posts -/

/-- The in-band time is all of the program that its own rule moves (R44). -/
theorem inBand_prog (s : Station) : ∃ n, (inBand s).prog = { s.prog with inBandS := n } := by
  unfold inBand
  split
  · exact ⟨_, rfl⟩
  · split
    · split
      · exact ⟨_, rfl⟩
      · split
        · exact ⟨satAdd Config.top32 s.prog.inBandS 10, by simp⟩
        · exact ⟨_, rfl⟩
    · exact ⟨_, rfl⟩

/-- The station as a control period has begun, before it posts (R44, R49, R56, R58). -/
def periodBegun (s : Station) : Station :=
  latchDemands (inBand (withSetpoint pairAtCycle (cycleReaches Config.cycleMs s)))

theorem controlPeriod_eq {s : Station} (h : s.prog.cycleOn = true) :
    controlPeriod s = startCycle (postDemands (periodBegun s)) := by
  simp [controlPeriod, periodBegun, h]

/-- The latches take over the demands last posted (R49, R50). -/
theorem latchDemands_inBand_prog (s : Station) :
    ∃ n, (latchDemands (inBand s)).prog =
      { s.prog with inBandS := n, cPrev := s.prog.bayC, hPrev := s.prog.bayH } := by
  obtain ⟨n, e⟩ := inBand_prog s
  exact ⟨n, by simp [latchDemands, e]⟩

/-- A posting by a station that does not follow, and the cycle it starts from the in-use values then held (R48, R53,
R56). -/
theorem startCycle_postDemands {q : Station} (hpair : q.prog.pair ≠ .following) :
    let t := startCycle (postDemands q)
    t.prog.bayC = (bayDemands q).2.demand ∧ t.prog.bayH = (bayDemands q).1.demand ∧
    t.prog.cPrev = q.prog.cPrev ∧ t.prog.hPrev = q.prog.hPrev ∧ t.prog.vessel = q.prog.vessel ∧
    t.prog.cycleMs = 0 ∧ t.prog.gated = !q.sense.chillRdy ∧
    t.prog.glycolMs = min 10000 (q.ownPart t.pools.items.chill.inUse * 1250) ∧
    t.prog.heaterMs = q.heaterTime (q.ownPart t.pools.items.heat.inUse) ∧
    t.prog.glycol = (decide (0 < t.prog.glycolMs) && q.sense.chillRdy && !q.inLockout) ∧
    t.prog.heater = (decide (0 < t.prog.heaterMs) && !q.inLockout) ∧
    (q.prog.vessel = true →
      t.prog.driveC = t.pools.items.chill.inUse / 2 ∧ t.prog.driveH = t.pools.items.heat.inUse / 2) := by
  have hpair' : (postDemands q).prog.pair ≠ .following := by simpa using hpair
  have hown (u : Nat) : (postDemands q).ownPart u = q.ownPart u := by simp [Station.ownPart]
  have htime (u : Nat) : (postDemands q).heaterTime u = q.heaterTime u := by simp [Station.heaterTime]
  have hlock : (postDemands q).inLockout = q.inLockout := by simp [Station.inLockout]
  dsimp only
  rw [startCycle_own hpair', hown, hown, htime, hlock]
  refine ⟨(postDemands_bay q).1, (postDemands_bay q).2, ?_⟩
  simp +contextual [Config.cycleMs, Config.eighthMs]

/-- CHILL_REQ after a posting that no lead holds back (R103). -/
theorem chillReq_postDemands {q : Station} (hf : q.followHold = false) :
    (startCycle (postDemands q)).chillReq = decide (0 < (postDemands q).pools.items.chill.posted.demand) := by
  simp [Station.chillReq, (postDemands_claims hf).2.2]

/-- The units that the demands read stand in `q` as in `s`. -/
structure Station.SameUnits (s q : Station) : Prop where
  start : q.start = s.start
  sense : q.sense = s.sense
  keg : q.keg = s.keg
  exc : q.exc = s.exc
  pour : q.pour = s.pour
  pools : q.pools = s.pools

namespace Station.SameUnits

variable {s q : Station} (h : s.SameUnits q)

include h

theorem inLockout : q.inLockout = s.inLockout := by simp [Station.inLockout, h.exc]

theorem holdFor (k : FaultKind) : q.holdFor k = s.holdFor k := by simp [Station.holdFor, h.exc]

theorem followHold : q.followHold = s.followHold := followHold_congr h.start (by rw [h.pools])

theorem freezeLimit : q.freezeLimit = s.freezeLimit := by simp [Station.freezeLimit, Station.jacketT, h.sense]

theorem tAvg : q.tAvg = s.tAvg := by simp [Station.tAvg, h.sense]

theorem followerT : q.followerT = s.followerT := by
  simp [Station.followerT, Station.peer?, Station.partnerId, Station.follower, h.pools, h.start]

theorem setpoint (hpair : q.prog.pair = s.prog.pair) (hlast : q.prog.lastS = s.prog.lastS) :
    q.setpoint = s.setpoint := by
  simp [Station.setpoint, Station.follower, h.start, h.keg, hpair, hlast]

end Station.SameUnits

/-- A period at whose start the pair changes nothing. -/
theorem periodBegun_same {s : Station} (ho : s.prog.leadHeard = false) (hl : s.prog.pair ≠ .leadPaired) :
    s.SameUnits (periodBegun s) ∧
      ∃ n, (periodBegun s).prog =
        { (cycleReaches Config.cycleMs s).prog with
          inBandS := n, cPrev := s.prog.bayC, hPrev := s.prog.bayH } := by
  have hsame : pairAtCycle (cycleReaches Config.cycleMs s) = cycleReaches Config.cycleMs s := by
    simp [pairAtCycle, ho, hl]
  have hw : withSetpoint pairAtCycle (cycleReaches Config.cycleMs s) = cycleReaches Config.cycleMs s :=
    (withSetpoint_same (by rw [hsame]) (by rw [hsame])).trans hsame
  obtain ⟨n, e⟩ := latchDemands_inBand_prog (cycleReaches Config.cycleMs s)
  rw [periodBegun, hw]
  exact ⟨⟨by simp, by simp, by simp, by simp, by simp, by simp⟩, n, by simpa using e⟩

/-- A period at whose start a paired lead runs the vessel (R56). -/
theorem periodBegun_vessel {s : Station} (hl : s.prog.pair = .leadPaired) (hh : s.partnerHeard = true) :
    s.SameUnits (periodBegun s) ∧
      ∃ n, (periodBegun s).prog =
        { (cycleReaches Config.cycleMs s).prog with
          inBandS := n, cPrev := s.prog.bayC, hPrev := s.prog.bayH, vessel := true } := by
  have hheard : (cycleReaches Config.cycleMs s).partnerHeard = true := by
    simpa [Station.partnerHeard, Station.peer?, Station.partnerId, Station.follower] using hh
  have hup : pairAtCycle (cycleReaches Config.cycleMs s) =
      { cycleReaches Config.cycleMs s with prog.vessel := true } := by
    simp [pairAtCycle, hl, hheard]
  have hw : withSetpoint pairAtCycle (cycleReaches Config.cycleMs s) =
      { cycleReaches Config.cycleMs s with prog.vessel := true } := by
    refine (withSetpoint_same ?_ ?_).trans hup
    · simp [hup, Station.setpoint, Station.follower]
    · simp [hup, Station.checked, Station.setpoint, Station.follower, Station.tAvg]
  obtain ⟨n, e⟩ := latchDemands_inBand_prog { cycleReaches Config.cycleMs s with prog.vessel := true }
  rw [periodBegun, hw]
  exact ⟨⟨by simp, by simp, by simp, by simp, by simp, by simp⟩, n, by simpa using e⟩

/-- A condition withdrawn, LINK_MUTE apart, changes of the excursion unit's items and not its state (R161, R169). -/
theorem setCond_withdrawn {k : FaultKind} (hk : k ≠ .linkMute) (s : Station) :
    ∃ e, setCond k false s = { s with exc := e } ∧ e.state = s.exc.state := by
  have hstanding : ∃ e, setStanding k false s = { s with exc := e } ∧ e.state = s.exc.state := by
    cases k <;> exact ⟨_, rfl, rfl⟩
  obtain ⟨e, he, hstate⟩ := hstanding
  unfold setCond withdrawCond
  rw [he]
  split
  · exact ⟨s.exc, rfl, rfl⟩
  · rw [if_neg (by decide)]
    dsimp only
    split
    · exact ⟨_, rfl, hstate⟩
    · exact ⟨e, rfl, hstate⟩

/-- Where the temperature check does not run, both its conditions are withdrawn and the state stays (R162). -/
theorem tempCheck_unchecked {s : Station} (h : s.checked = none) (advance : Bool) :
    ∃ e, tempCheck advance s = { s with exc := e } ∧ e.state = s.exc.state := by
  obtain ⟨e, he, hs⟩ := setCond_withdrawn (k := .overtemp) (by decide)
    { s with exc.overS := 0, exc.underS := 0 }
  obtain ⟨e', he', hs'⟩ := setCond_withdrawn (k := .undertemp) (by decide) { s with exc := e }
  refine ⟨e', ?_, hs'.trans hs⟩
  unfold tempCheck
  rw [h]
  exact (congrArg _ he).trans he'

/-- The same for an effect after which the check does not run. -/
theorem withSetpoint_unchecked {f : Station → Station} {s : Station} (h : (f s).checked = none) :
    ∃ k e, withSetpoint f s = { f s with keg := k, exc := e } ∧ e.state = (f s).exc.state := by
  unfold withSetpoint
  dsimp only
  split
  · exact ⟨(f s).keg, (f s).exc, rfl, rfl⟩
  · obtain ⟨e, he, hstate⟩ := tempCheck_unchecked h false
    obtain ⟨m, hm⟩ := oneTrigger_eq s (tempCheck false (f s))
    rw [hm, he]
    exact ⟨_, e, rfl, hstate⟩

/-- A follower under its lead as a control period has begun (R57, R58). -/
theorem periodBegun_follows {s : Station} (hrole : s.start.role = .follower)
    (h : (s.prog.pair = .following ∧ s.prog.leadHeard = false) ∨ (s.prog.pair = .orphan ∧ s.prog.leadHeard = true)) :
    (periodBegun s).start = s.start ∧ (periodBegun s).sense = s.sense ∧ (periodBegun s).exc.state = s.exc.state ∧
      ∃ n, (periodBegun s).prog =
        { (cycleReaches Config.cycleMs s).prog with
          inBandS := n, cPrev := s.prog.bayC, hPrev := s.prog.bayH, pair := .following, leadHeard := false } := by
  rcases h with ⟨hpair, hheard⟩ | ⟨hpair, hheard⟩
  · obtain ⟨hunits, n, e⟩ := periodBegun_same hheard (by simp [hpair])
    exact ⟨hunits.start, hunits.sense, congrArg Exc.state hunits.exc, n, by simp [e, hpair, hheard]⟩
  · have hup : pairAtCycle (cycleReaches Config.cycleMs s) =
        { cycleReaches Config.cycleMs s with prog.pair := .following, prog.leadHeard := false } := by
      simp [pairAtCycle, hpair, hheard]
    obtain ⟨k, e, hw, hstate⟩ := withSetpoint_unchecked (f := pairAtCycle) (s := cycleReaches Config.cycleMs s)
      (by simp [hup, Station.checked, Station.follower, hrole])
    obtain ⟨n, hn⟩ := latchDemands_inBand_prog (withSetpoint pairAtCycle (cycleReaches Config.cycleMs s))
    rw [hw] at hn
    rw [periodBegun, hw]
    exact ⟨by simp, by simp, by simpa using hstate, n, by simpa [hup] using hn⟩

/-- A station without a setpoint that runs no vessel posts nothing (R48, R57). -/
theorem postDemands_of_no_setpoint {s : Station} (h : s.setpoint = none) (hv : s.prog.vessel = false) :
    (postDemands s).pools.items.heat.posted = {} ∧ (postDemands s).pools.items.chill.posted = {} ∧
      (postDemands s).pools.items.chill.own = {} ∧ (postDemands s).prog.driveC = s.prog.driveC ∧
      (postDemands s).prog.driveH = s.prog.driveH := by
  have hempty : Claim.norm {} = {} := rfl
  have hown (r : Station) : r.effective {} = {} := by
    unfold Station.effective
    split <;> rfl
  have hpost : postDemands s = postProgram {} {} { s with prog.bayH := 0, prog.bayC := 0 } := by
    simp [postDemands, bayDemands_of_no_setpoint h, hv]
  obtain ⟨hheat, hchill, hchillOwn⟩ := postProgram_claims {} {} { s with prog.bayH := 0, prog.bayC := 0 }
  have hdrive := (postProgram_lowered {} {} { s with prog.bayH := 0, prog.bayC := 0 }).drive hv
  rw [hpost]
  exact ⟨hheat, hchill, by rw [hchillOwn, hempty, hown], hdrive.1, hdrive.2⟩

/-- Settles O48. -/
theorem controlPeriodPostsAndStartsTheCycle : Obligations.ControlPeriodPostsAndStartsTheCycle := by
  unfold Obligations.ControlPeriodPostsAndStartsTheCycle
  refine ⟨?_, ?_, ?_⟩
  · intro x sp cap c0 h0 slope s hp hon hlead hfollow hv hheard hhold hx hsp hcap hc0 hh0 hslope
    obtain ⟨hunits, n, hprog⟩ := periodBegun_same hheard hlead
    obtain ⟨hbayC, hbayH, hcPrev, hhPrev, -, hms, hgated, hgms, hhms, hglycol, hheater, -⟩ :=
      startCycle_postDemands (q := periodBegun s.station) (by simpa [hprog] using hfollow)
    have hhold' : (periodBegun s.station).followHold = false := hunits.followHold.trans hhold
    obtain ⟨hpheat, hpchill, -⟩ := postDemands_claims hhold'
    have hvq : (periodBegun s.station).prog.vessel = false := by simpa [hprog] using hv
    have hdemands := bayDemands_eq (s := periodBegun s.station) (x := x) (sp := sp) (by simpa [hprog] using hheard)
      (by simp [Station.controlT, hvq, hunits.tAvg, hx])
      ((hunits.setpoint (by simp [hprog]) (by simp [hprog])).trans hsp)
    have hcool : (periodBegun s.station).coolFor (x - sp) =
        if s.station.inLockout || s.station.holdFor .kegLost || s.station.holdFor .undertemp then 0
        else if s.station.holdFor .probeLost then min cap 2 else c0 := by
      subst hc0 hcap
      simp only [Station.coolFor, hunits.inLockout, hunits.holdFor, hunits.freezeLimit, hunits.start, hprog, coolDemand]
      rfl
    have hheat : (periodBegun s.station).heatFor (x - sp) =
        if s.station.inLockout || s.station.holdFor .kegLost || s.station.holdFor .overtemp ||
            s.station.holdFor .probeLost then 0 else h0 := by
      have hneg : -(x - sp) = sp - x := by omega
      subst hh0
      simp only [Station.heatFor, hunits.inLockout, hunits.holdFor, hunits.start, hprog, heatDemand, hneg]
    have hclass : (periodBegun s.station).errorClass (x - sp) =
        if slope || decide (s.station.start.setup.db + 10 < (x - sp).natAbs) then .pull else .hold := by
      rw [Station.errorClass_eq, hunits.keg, hunits.start, ← hslope]
    have hbayC' := hbayC
    have hbayH' := hbayH
    simp only [hdemands, Claim.norm_demand, hcool, hheat] at hbayC' hbayH'
    refine ⟨_, act_powered hp _, rfl, ?_⟩
    simp only [State.on_station, controlPeriod_eq hon]
    refine ⟨hbayC', hbayH', ?_, ?_, ?_, ?_, ?_, hms, ?_, ?_, ?_, ?_, ?_, ?_, ?_, ?_, ?_, ?_⟩
    · simp only [startCycle_frame, hpchill, hvq, Bool.false_eq_true, if_false, hbayC, hdemands, Claim.norm_demand]
      rw [Claim.norm_norm, Claim.norm_mk, hclass]
      simp only [hunits.holdFor]
    · simp only [startCycle_frame, hpheat, hvq, Bool.false_eq_true, if_false, hbayH, hdemands, Claim.norm_demand]
      rw [Claim.norm_norm, Claim.norm_mk, hclass]
      simp only [hunits.holdFor]
    · rw [chillReq_postDemands hhold', hpchill, hbayC]
      simp [hvq]
    · simp [hcPrev, hprog]
    · simp [hhPrev, hprog]
    · rw [hgated, hunits.sense]
    · simpa [Station.ownPart, hvq] using hgms
    · simpa [Station.ownPart, Station.heaterTime, Config.cycleMs, hvq, hunits.start] using hhms
    · rw [hglycol, hunits.sense, hunits.inLockout]
    · rw [hheater, hunits.inLockout]
    · simp [hunits.keg]
    · simp [hunits.exc]
    · simp [hunits.sense]
    · simp [hunits.start]
    · simp [hunits.pour]
  · intro e b x s hp hon hrole hlead hheard hpeer hstate hb hnormal hjacket hjsome hjok hx
    have hpartner : s.station.peer? s.station.partnerId = some e := by
      simpa [Station.partnerId, Station.follower, hrole] using hpeer
    have hheardE : s.station.partnerHeard = true := by simpa [Station.partnerHeard, hpartner] using hstate
    obtain ⟨hunits, n, hprog⟩ := periodBegun_vessel hlead hheardE
    obtain ⟨hbayC, hbayH, -, -, hvessel, -, -, hgms, hhms, -, -, hdrive⟩ :=
      startCycle_postDemands (q := periodBegun s.station) (by simp [hprog, hlead])
    have hhold : (periodBegun s.station).followHold = false := by
      rw [hunits.followHold]
      simp [Station.followHold, Station.follower, hrole]
    obtain ⟨hpheat, hpchill, -⟩ := postDemands_claims hhold
    have hvq : (periodBegun s.station).prog.vessel = true := by simp [hprog]
    have hT : (periodBegun s.station).controlT = some x := by
      have hfT : s.station.followerT = if e.state = .present ∧ e.probeOk = true then e.temp else none := by
        simp [Station.followerT, hpartner]
      rw [hx, Station.controlT, hvq, hunits.tAvg, hunits.followerT, hfT]
      rfl
    have hsp : (periodBegun s.station).setpoint = some b.setpoint := by
      rw [hunits.setpoint (by simp [hprog]) (by simp [hprog])]
      simp [Station.setpoint, Station.follower, hrole, hb]
    have hdemands := bayDemands_eq (s := periodBegun s.station) (by simpa [hprog] using hheard) hT hsp
    have hlock : s.station.inLockout = false := by simp [Station.inLockout, hnormal]
    have hfor (k : FaultKind) : s.station.holdFor k = false := by simp [Station.holdFor, hnormal]
    have hlimit : s.station.freezeLimit = 8 := by
      obtain ⟨j, hj⟩ := Option.isSome_iff_exists.mp hjsome
      simp [Station.freezeLimit, hj, hjok, hjacket j hj]
    have hcool : (periodBegun s.station).coolFor (x - b.setpoint) =
        coolDemand s.station.start.setup.db s.station.prog.bayC (x - b.setpoint) := by
      simp only [Station.coolFor, hunits.inLockout, hunits.holdFor, hunits.freezeLimit, hunits.start, hprog, hlock,
        hfor, hlimit, Bool.or_self, Bool.false_eq_true, if_false]
      exact Nat.min_eq_right (coolDemand_le _ _ _)
    have hheat : (periodBegun s.station).heatFor (x - b.setpoint) =
        heatDemand s.station.start.setup.db s.station.start.setup.hmax s.station.prog.bayH (x - b.setpoint) := by
      simp only [Station.heatFor, hunits.inLockout, hunits.holdFor, hunits.start, hprog, hlock, hfor, Bool.or_self,
        Bool.false_eq_true, if_false]
    have hneg : -(x - b.setpoint) = b.setpoint - x := by omega
    refine ⟨_, act_powered hp _, rfl, ?_⟩
    simp only [State.on_station, controlPeriod_eq hon]
    refine ⟨hvessel.trans hvq, ?_, ?_, ?_, ?_, ?_, ?_, ?_, (hdrive hvq).1, (hdrive hvq).2, ?_⟩
    · rw [hbayC, hdemands, Claim.norm_demand, hcool]
      rfl
    · rw [hbayH, hdemands, Claim.norm_demand, hheat, heatDemand, hneg]
    · simp [hpchill, hvq, hbayC, Claim.twice]
    · simp [hpheat, hvq, hbayH, Claim.twice]
    · rw [chillReq_postDemands hhold, hpchill, hbayC]
      simp [hvq, Claim.twice]
    · simpa [Station.ownPart, hvq] using hgms
    · simpa [Station.ownPart, Station.heaterTime, Config.cycleMs, hvq, hunits.start] using hhms
    · simp [hunits.keg, hunits.exc, hunits.sense, hunits.start]
  · intro s hp hon hrole hv hpair
    obtain ⟨hstart, hsense, hstate, n, hprog⟩ := periodBegun_follows hrole hpair
    have hsp : (periodBegun s.station).setpoint = none := by
      simp [Station.setpoint, Station.follower, hstart, hrole, hprog]
    have hvq : (periodBegun s.station).prog.vessel = false := by simpa [hprog] using hv
    obtain ⟨hheat, hchill, hown, hdriveC, hdriveH⟩ := postDemands_of_no_setpoint hsp hvq
    have hcap : freezeCap (postDemands (periodBegun s.station)) s.station.prog.driveC =
        freezeCap s.station s.station.prog.driveC := by
      simp [freezeCap, Station.jacketT, hsense]
    have hlock : (postDemands (periodBegun s.station)).inLockout = s.station.inLockout := by
      simp [Station.inLockout, hstate]
    refine ⟨_, act_powered hp _, rfl, ?_⟩
    simp only [State.on_station, controlPeriod_eq hon]
    have hC : (postDemands (periodBegun s.station)).prog.driveC = s.station.prog.driveC := by simp [hdriveC, hprog]
    have hH : (postDemands (periodBegun s.station)).prog.driveH = s.station.prog.driveH := by simp [hdriveH, hprog]
    rw [startCycle_following (by simp [hprog]) (by simpa using hvq), hC, hH, hcap, hlock]
    refine ⟨?_, ?_, ?_, ?_, ?_, ?_, rfl, rfl, ?_, ?_, ?_, ?_, ?_⟩
    · simp [hprog]
    · simp [hprog]
    · simpa using hchill
    · simpa using hheat
    · simp [Station.chillReq, hown]
    · rfl
    · simp [Station.heaterTime, hstart, Config.cycleMs]
    · simp [hsense]
    · rfl
    · simp [hsense]
    · simp [hstart]

end Sys2Proof.Machine
end

section
/-! SUPPORT. What the temperature check may bring about, a fault with all it does among it, opens no thermal output and
clears no event flag: one lemma for each operation on the way (R54, R161 to R172, R194). -/
namespace Sys2Proof.Machine
open Sys2Proof

/-- From `s` to `t` no thermal output opens, off the vessel rules the pair drive stays, and every flag that stood
stands. -/
structure Station.Settles (s t : Station) : Prop where
  prog : s.prog.Quieter t.prog
  flags : ∀ f, s.flag f = true → t.flag f = true

namespace Station.Settles

theorem trans {s t u : Station} (a : s.Settles t) (b : t.Settles u) : s.Settles u :=
  ⟨a.prog.trans b.prog, fun f hf => b.flags f (a.flags f hf)⟩

theorem of_quieter {s t : Station} (h : s.prog.Quieter t.prog) (hr : t.req = s.req) : s.Settles t :=
  ⟨h, fun f hf => by rwa [Station.flag, hr]⟩

/-- What leaves the program and the request unit settles. -/
theorem of_eq {s t : Station} (hp : t.prog = s.prog) (hr : t.req = s.req) : s.Settles t := of_quieter (.of_eq hp) hr

theorem refl (s : Station) : s.Settles s := of_eq rfl rfl

end Station.Settles

theorem setFlag_settles (f : Flag) (s : Station) : s.Settles (setFlag f s) :=
  ⟨.of_eq (by simp), fun g hg => by simp [hg]⟩

theorem gradeFlags_settles (a b : AttrState) (s : Station) : s.Settles (gradeFlags a b s) := by
  unfold gradeFlags
  split
  · exact setFlag_settles _ s
  · exact setFlag_settles _ s
  · exact setFlag_settles _ s
  · exact .refl s

/-! ## Postings of the program and of the pressure unit -/

theorem postProgram_settles (h c : Claim) (s : Station) : s.Settles (postProgram h c s) :=
  .of_quieter (postProgram_lowered h c s).toQuieter (by simp)

theorem postDemands_settles (s : Station) : s.Settles (postDemands s) := by
  have hset (b c : Nat) : s.Settles { s with prog.bayH := b, prog.bayC := c } :=
    .of_quieter ⟨rfl, fun _ => ⟨rfl, rfl⟩, id, id⟩ rfl
  unfold postDemands
  dsimp only
  split
  · exact (hset _ _).trans (postProgram_settles _ _ _)
  · exact (hset _ _).trans (postProgram_settles _ _ _)

theorem progRecompute_settles (s : Station) : s.Settles (progRecompute s) := by
  unfold progRecompute
  split
  · exact postDemands_settles s
  · exact .refl s

theorem postGasNow_settles (s : Station) : s.Settles (postGasNow s) := by
  refine .of_quieter ?_ (by simp)
  simp only [postGasNow, postGas, syncGas_frame, afterPosting_frame]
  exact (postOne_lowered .gas _ s).toQuieter

theorem decideNow_settles (v w r : Bool) (s : Station) : s.Settles (decideNow v w r s) := by
  unfold decideNow setVent
  dsimp only
  refine .trans ?_ (postGasNow_settles _)
  exact .of_eq rfl rfl

/-- A change of GAS in-use and the decision that it brings. -/
theorem gasDecided_settles {f : Station → Station} {s : Station} (h : s.Settles (f s)) :
    s.Settles (gasDecided f s) := by
  unfold gasDecided
  dsimp only
  split
  · exact h
  · exact h.trans (decideNow_settles _ _ _ _)

theorem applyGrant_settles (p : Pool) (g : Nat) (s : Station) : s.Settles (applyGrant p g s) :=
  .of_quieter (applyGrant_lowered p g s).toQuieter (by simp)

theorem refreshGrants_settles (s : Station) : s.Settles (refreshGrants s) := by
  have hall : s.Settles (refreshAll s) :=
    ((applyGrant_settles .heat _ s).trans (applyGrant_settles .chill _ _)).trans (applyGrant_settles .gas _ _)
  exact gasDecided_settles (hall.trans (.of_eq (by simp) (by simp)))

theorem imposeHold_settles (s : Station) : s.Settles (imposeHold s) := by
  unfold imposeHold
  split
  · exact decideNow_settles _ _ _ s
  · exact gasDecided_settles (postGasNow_settles s)

theorem imposeLockout_settles (s : Station) : s.Settles (imposeLockout s) := by
  unfold imposeLockout setVent
  dsimp only
  refine .trans ?_ (postGasNow_settles _)
  exact .of_eq rfl rfl

/-! ## Pours -/

theorem endTestEarly_settles (o : TestOutcome) (s : Station) : s.Settles (endTestEarly o s) := by
  unfold endTestEarly
  split
  · exact .refl s
  · refine .trans ?_ (decideNow_settles _ _ _ _)
    refine .trans ?_ (setFlag_settles _ _)
    exact .of_eq (by simp) (by simp)

theorem toldActive_settles (s : Station) : s.Settles (toldActive s) := by
  unfold toldActive enterActive
  split
  · refine .trans ?_ (postGasNow_settles _)
    exact .of_eq rfl rfl
  · refine .trans ?_ (decideNow_settles _ _ _ _)
    exact .of_eq rfl rfl

theorem toldPriming_settles (s : Station) : s.Settles (toldPriming s) := by
  unfold toldPriming
  refine .trans ?_ (decideNow_settles _ _ _ _)
  exact .of_eq rfl rfl

theorem beginPour_settles (tag : Nat) (kind : OrderKind) (requested : Nat) (level : Option Nat) (limit : Nat)
    (s : Station) : s.Settles (beginPour tag kind requested level limit s) := by
  refine (endTestEarly_settles .interrupted s).trans ?_
  unfold beginPour
  dsimp only
  split
  · refine .trans ?_ (toldActive_settles _)
    exact .of_eq (by simp) (by simp)
  · refine .trans ?_ (toldPriming_settles _)
    exact .of_eq rfl rfl

theorem testHead_settles (s : Station) : s.Settles (testHead s) := by
  unfold testHead
  split
  · exact .refl s
  · split
    · exact beginPour_settles _ _ _ _ _ s
    · exact .refl s

theorem completeUnstarted_settles (out : PourOutcome) (o : Order) (s : Station) :
    s.Settles (completeUnstarted out o s) := by
  unfold completeUnstarted
  refine .trans ?_ (testHead_settles _)
  exact .of_eq (by simp) (by simp)

theorem endQueued_settles (out : PourOutcome) (s : Station) : s.Settles (endQueued out s) := by
  have hfold (l : List Order) (r : Station) : r.Settles (l.foldl (fun s o => completeUnstarted out o s) r) := by
    induction l generalizing r with
    | nil => exact .refl r
    | cons o l ih => exact (completeUnstarted_settles out o r).trans (ih _)
  unfold endQueued
  refine .trans ?_ (hfold _ _)
  exact .of_eq rfl rfl

theorem declareEmpty_settles (s : Station) : s.Settles (declareEmpty s) := by
  unfold declareEmpty
  refine .trans (t := endQueued .cancelled _) ?_ (.of_eq rfl rfl)
  refine .trans ?_ (endQueued_settles .cancelled _)
  refine .trans ?_ (setFlag_settles .kegEmpty _)
  exact .of_eq (by simp) (by simp)

theorem foamRunAfter_settles (d : DrainPour) (s : Station) : s.Settles (foamRunAfter d s) := by
  unfold foamRunAfter
  split
  · split
    · split
      · exact .of_eq rfl rfl
      · split
        · exact declareEmpty_settles s
        · exact .of_eq rfl rfl
    · exact .of_eq rfl rfl
  · exact .refl s

theorem measureGas_settles (v : Nat) (s : Station) : s.Settles (measureGas v s) := by
  unfold measureGas
  dsimp only
  refine .trans ?_ (gradeFlags_settles _ _ _)
  exact .of_eq rfl rfl

theorem clearGasCounts_settles (s : Station) : s.Settles (clearGasCounts s) := .of_eq rfl rfl

theorem pouredVolume_settles (d : Nat) (s : Station) : s.Settles (pouredVolume d s) := by
  unfold pouredVolume
  split
  · dsimp only
    split
    · exact (measureGas_settles _ s).trans (clearGasCounts_settles _)
    · exact .of_eq rfl rfl
  · exact .refl s

theorem completePour_settles (drained : Bool) (d : DrainPour) (s : Station) : s.Settles (completePour drained d s) := by
  unfold completePour
  dsimp only
  refine .trans ?_ (testHead_settles _)
  refine .trans ?_ (pouredVolume_settles _ _)
  have hfoam : s.Settles (foamRunAfter d (writePour d.delivered { s with pour.drain := none })) := by
    refine .trans ?_ (foamRunAfter_settles d _)
    exact .of_eq (by simp) (by simp)
  refine hfoam.trans ?_
  split
  · exact .of_eq (by simp) (by simp)
  · exact .of_eq (by simp) (by simp)

theorem toldEnd_settles (priming : Bool) (s : Station) : s.Settles (toldEnd priming s) := by
  unfold toldEnd
  dsimp only
  refine .trans ?_ (decideNow_settles _ _ _ _)
  exact .of_eq rfl rfl

theorem closePour_settles (out : PourOutcome) (s : Station) : s.Settles (closePour out s) := by
  unfold closePour
  split
  · exact .refl s
  · dsimp only
    split
    · refine .trans ?_ (toldEnd_settles _ _)
      exact .of_eq (by simp) (by simp)
    · refine .trans ?_ (completePour_settles _ _ _)
      refine .trans ?_ (toldEnd_settles _ _)
      exact .of_eq (by simp) (by simp)

/-! ## Faults, resume, and the check -/

theorem overpressurePour_settles (s : Station) : s.Settles (overpressurePour s) := by
  unfold overpressurePour
  split
  · exact closePour_settles _ s
  · exact .refl s

/-- The safe actions of the four blocks, in their order (R165, R166). -/
theorem safeActions_settle (s : Station) :
    s.Settles (overpressurePour (refreshGrants (imposeHold (progRecompute s)))) :=
  (((progRecompute_settles s).trans (imposeHold_settles _)).trans (refreshGrants_settles _)).trans
    (overpressurePour_settles _)

theorem openEntry_settles (k : FaultKind) (lockout : Bool) (s : Station) : s.Settles (openEntry k lockout s) :=
  .of_eq rfl rfl

theorem closeEntry_settles (s : Station) : s.Settles (closeEntry s) := .of_eq rfl rfl

theorem placeExcursion_settles (s : Station) : s.Settles (placeExcursion s) := .of_eq rfl rfl

theorem commitTrigger_settles (s : Station) : s.Settles (commitTrigger s) := .of_eq (by simp) (by simp)

theorem firstFault_settles (k : FaultKind) (s : Station) : s.Settles (firstFault k s) := by
  unfold firstFault
  dsimp only
  refine .trans ?_ (setFlag_settles .excursion _)
  refine .trans ?_ (placeExcursion_settles _)
  refine .trans ?_ (openEntry_settles k false _)
  refine .trans ?_ (endTestEarly_settles .aborted _)
  refine .trans ?_ (safeActions_settle _)
  exact .of_eq (by simp) (by simp)

theorem closeThermal_settles (s : Station) : s.Settles (closeThermal s) :=
  .of_quieter ⟨rfl, fun _ => ⟨rfl, rfl⟩, by simp [closeThermal], by simp [closeThermal]⟩ rfl

theorem lockoutEntry_settles (k : FaultKind) (s : Station) : s.Settles (lockoutEntry k s) := by
  unfold lockoutEntry
  dsimp only
  refine .trans ?_ (setFlag_settles .lockout _)
  refine .trans ?_ (placeExcursion_settles _)
  refine .trans ?_ (commitTrigger_settles _)
  refine .trans ?_ (openEntry_settles k true _)
  refine .trans ?_ (endTestEarly_settles .aborted _)
  refine .trans ?_ (endQueued_settles .fault _)
  refine .trans ?_ (closePour_settles .fault _)
  refine .trans ?_ (refreshGrants_settles _)
  refine .trans ?_ (imposeLockout_settles _)
  refine .trans ?_ (closeThermal_settles _)
  refine .trans ?_ (progRecompute_settles _)
  exact .of_eq rfl rfl

theorem takeFault_settles (k : FaultKind) (s : Station) : s.Settles (takeFault k s) := by
  unfold takeFault
  split
  · split
    · exact lockoutEntry_settles k s
    · exact firstFault_settles k s
  · split
    · unfold refreshHold
      refine .trans ?_ (safeActions_settle _)
      exact .of_eq rfl rfl
    · exact lockoutEntry_settles k s
  · exact .refl s

theorem resumeStation_settles (s : Station) : s.Settles (resumeStation s) := by
  unfold resumeStation
  dsimp only
  refine .trans ?_ (testHead_settles _)
  refine .trans ?_ (placeExcursion_settles _)
  refine .trans ?_ (closeEntry_settles _)
  refine .trans ?_ (refreshGrants_settles _)
  refine .trans ?_ (decideNow_settles _ _ _ _)
  refine .trans ?_ (progRecompute_settles _)
  exact .of_eq (by simp) (by simp)

theorem setCond_settles (k : FaultKind) (v : Bool) (s : Station) : s.Settles (setCond k v s) := by
  have hset (v : Bool) : s.Settles (setStanding k v s) := .of_eq (by simp) (by simp)
  unfold setCond
  split
  · exact .refl s
  · split
    · exact (hset true).trans (takeFault_settles k _)
    · unfold withdrawCond
      dsimp only
      split
      · split
        · exact (hset false).trans (resumeStation_settles _)
        · exact (hset false).trans (.of_eq rfl rfl)
      · exact hset false

/-- The temperature check, whatever it brings about, opens no thermal output and clears no flag. -/
theorem tempCheck_settles (advance : Bool) (s : Station) : s.Settles (tempCheck advance s) := by
  unfold tempCheck
  split
  all_goals
    refine .trans ?_ (setCond_settles _ _ _)
    refine .trans ?_ (setCond_settles _ _ _)
    exact .of_eq rfl rfl

/-- The same of the check that follows a change of the setpoint. -/
theorem withSetpoint_settles (f : Station → Station) (s : Station) : (f s).Settles (withSetpoint f s) := by
  unfold withSetpoint
  dsimp only
  split
  · exact .refl _
  · exact (tempCheck_settles false (f s)).trans (.of_eq (by simp) (by simp))

end Sys2Proof.Machine
end

section
/-! PROOFS. The boundary of the notice interval clock, and the notices' places (R56, R58, R90, R122 to R124, R131). -/
namespace Sys2Proof.Machine
open Sys2Proof

/-! ## The presence slot, which no change of claims or of grants touches -/

@[simp] theorem placeClaim_pres (s : Station) : (placeClaim s).link.pres = s.link.pres := rfl

@[simp] theorem placeRegular_pres (s : Station) : (placeRegular s).link.pres = s.link.pres := rfl

@[simp] theorem askExtra_pres (s : Station) : (askExtra s).link.pres = s.link.pres := by
  simp only [askExtra]
  (repeat' split) <;> simp

@[simp] theorem afterPosting_pres (b : PerPool Claim) (s : Station) : (afterPosting b s).link.pres = s.link.pres := by
  simp only [afterPosting, claimsChanged]
  (repeat' split) <;> simp

@[simp] theorem reown_pres (s : Station) : (reown s).link.pres = s.link.pres := by simp [reown]

@[simp] theorem decideAsIs_pres (s : Station) : (decideAsIs s).link.pres = s.link.pres := by
  simp [decideAsIs, decideNow, setVent, postGasNow, postGas]

@[simp] theorem regrant_pres (s : Station) : (regrant s).link.pres = s.link.pres := by
  have hall : (askWhereRaised recomputeAll s).link.pres = s.link.pres := by
    simp only [askWhereRaised]
    split <;> simp
  simp only [regrant, gasDecided]
  split <;> simp [hall]

/-- What a change of the peer view leaves: the view itself, the presence slot, and the pair's state (R91, R105). -/
@[simp] theorem viewChanged_view (s : Station) :
    (viewChanged s).pools.peers = s.pools.peers ∧ (viewChanged s).link.pres = s.link.pres ∧
    (viewChanged s).prog.pair = s.prog.pair ∧ (viewChanged s).prog.mismatch = s.prog.mismatch ∧
    (viewChanged s).prog.vessel = s.prog.vessel ∧ (viewChanged s).prog.lastS = s.prog.lastS := by
  simp [viewChanged]

/-! ## The entries -/

/-- The entries of the station a notice interval older, before anything reads them. -/
def Station.older (s : Station) : Station := { s with pools.peers := s.pools.peers.map Peer.aged }

@[simp] theorem older_frame (s : Station) :
    s.older.start = s.start ∧ s.older.sense = s.sense ∧ s.older.prog = s.prog ∧ s.older.link = s.link :=
  ⟨rfl, rfl, rfl, rfl⟩

/-- An entry a notice interval older, as the statement has it (R90): its two ages are told by the age before. -/
theorem Peer.aged_eq (e : Peer) :
    e.aged =
      { e with
        age := min 255 (e.age + 1)
        state :=
          if e.age = 1 ∧ e.state = .present then .silent
          else if e.age = 3 ∧ e.state = .silent then .absent
          else e.state
        seq := if e.age = 3 ∧ e.state = .silent then none else e.seq } := by
  have htwo : satAdd 255 e.age 1 = 2 ↔ e.age = 1 := by unfold satAdd; omega
  have hfour : satAdd 255 e.age 1 = 4 ↔ e.age = 3 := by unfold satAdd; omega
  simp only [Peer.aged, htwo, hfour]
  by_cases hp : e.age = 1 ∧ e.state = .present
  · simp [hp, satAdd]
  · by_cases hs : e.age = 3 ∧ e.state = .silent
    · simp [hs, satAdd]
    · simp [hp, hs, satAdd]

@[simp] theorem Peer.aged_id (e : Peer) : e.aged.id = e.id := by rw [Peer.aged_eq]

/-- A SILENT entry of age 3 becomes ABSENT (R90). -/
theorem Peer.aged_absent {e : Peer} (hs : e.state = .silent) (ha : e.age = 3) : e.aged.state = .absent := by
  simp [Peer.aged_eq, hs, ha]

/-- Each entry ages in its place. -/
theorem older_peer? (n : Nat) (s : Station) : s.older.peer? n = (s.peer? n).map Peer.aged := by
  simp only [Station.older, Station.peer?, List.find?_map]
  congr 2
  funext e
  simp

/-- A partner whose entry becomes ABSENT was heard of before the boundary, and is not after it (R56, R58). -/
theorem partner_goes_absent {s : Station} {e : Peer} (he : s.peer? s.partnerId = some e) (hs : e.state = .silent)
    (ha : e.age = 3) : s.partnerHeard = true ∧ (viewChanged s.older).partnerHeard = false := by
  have hpeer : (viewChanged s.older).peer? (viewChanged s.older).partnerId = some e.aged := by
    have h := older_peer? s.partnerId s
    rw [he] at h
    simpa [Station.peer?, Station.partnerId, Station.follower] using h
  exact ⟨by simp [Station.partnerHeard, he, hs], by simp [Station.partnerHeard, hpeer, Peer.aged_absent hs ha]⟩

@[simp] theorem partnerGone_peers (s : Station) : (partnerGone s).pools.peers = s.pools.peers := by
  unfold partnerGone
  (repeat' split) <;> simp

@[simp] theorem withSetpoint_peers (f : Station → Station) (s : Station) :
    (withSetpoint f s).pools.peers = (f s).pools.peers := by
  unfold withSetpoint
  dsimp only
  split <;> simp

/-- Whatever an ABSENT partner brings, the entries are the old ones a notice interval older (R90). -/
theorem ageEntries_peers (s : Station) : (ageEntries s).pools.peers = s.pools.peers.map Peer.aged := by
  unfold ageEntries
  dsimp only
  split <;> simp

/-- In the window no pair is run yet, and the aging brings the recomputation alone (R90, R133). -/
theorem ageEntries_window {s : Station} (h : s.start.phase = .window) : ageEntries s = viewChanged s.older := by
  have hgone : partnerGone (viewChanged s.older) = viewChanged s.older := by
    simp [partnerGone, Station.started, h]
  unfold ageEntries
  dsimp only
  split
  · exact (withSetpoint_same (by rw [← Station.older, hgone]) (by rw [← Station.older, hgone])).trans hgone
  · rfl

/-- A partner whose entry becomes ABSENT brings what its pair does (R56, R58). -/
theorem ageEntries_gone {s : Station} {e : Peer} (he : s.peer? s.partnerId = some e) (hs : e.state = .silent)
    (ha : e.age = 3) : ageEntries s = withSetpoint partnerGone (viewChanged s.older) := by
  obtain ⟨hbefore, hafter⟩ := partner_goes_absent he hs ha
  rw [Station.older] at hafter
  simp [ageEntries, hbefore, hafter, Station.older]

/-! ## The boundary -/

/-- The intervals of a MUTE station counted (R122). -/
def muteCounted (s : Station) : Station :=
  { s with link.muteIntervals := if s.link.mute then satAdd 255 s.link.muteIntervals 1 else 0 }

@[simp] theorem muteCounted_frame (s : Station) :
    (muteCounted s).start = s.start ∧ (muteCounted s).sense = s.sense ∧ (muteCounted s).prog = s.prog ∧
    (muteCounted s).pools = s.pools ∧ (muteCounted s).link.pres = s.link.pres ∧
    (muteCounted s).link.tx = s.link.tx :=
  ⟨rfl, rfl, rfl, rfl, rfl, rfl⟩

/-- After the window a boundary counts the MUTE intervals and ages the entries (R90, R122). -/
theorem boundary_running {s : Station} (h : s.start.phase = .running) : boundary s = ageEntries (muteCounted s) := by
  simp [boundary, Station.clockOn, muteCounted, h]

/-- In the window it is counted too, and a presence notice dropped before the fourth is placed again (R131). -/
theorem boundary_window {s : Station} (h : s.start.phase = .window) :
    boundary s =
      let t := viewChanged (muteCounted s).older
      let r := { t with start.boundaries := min 4 (s.start.boundaries + 1) }
      if s.start.presAgain = true ∧ s.start.boundaries < 3 then placePresence r else r := by
  have hfour : min 4 (s.start.boundaries + 1) < 4 ↔ s.start.boundaries < 3 := by omega
  have hage := ageEntries_window (s := muteCounted s) h
  have hkeep : (viewChanged (muteCounted s).older).start = s.start := by simp
  unfold boundary
  rw [if_pos (by simp [Station.clockOn, h])]
  dsimp only
  rw [← muteCounted, hage, hkeep, if_pos h]
  simp only [satAdd, hfour, Bool.and_eq_true, decide_eq_true_eq]

/-- What a boundary of the window leaves in the presence slot (R131). -/
theorem boundary_window_pres {s : Station} (h : s.start.phase = .window) :
    (s.start.presAgain = true → s.start.boundaries < 3 →
      (boundary s).start.presAgain = false ∧
        (boundary s).link.pres =
          s.link.pres.place (s.link.tx == some .presence) { role := s.roleCarried, budgets := s.start.setup.budget }) ∧
    (s.start.presAgain = false ∨ 3 ≤ s.start.boundaries → (boundary s).link.pres = s.link.pres) := by
  rw [boundary_window h]
  refine ⟨fun hagain hb => ?_, fun hno => ?_⟩
  · rw [if_pos ⟨hagain, hb⟩]
    simp [placePresence, Station.roleCarried]
  · rw [if_neg fun hagain => hno.elim (by simp [hagain.1]) (Nat.not_le_of_lt hagain.2)]
    simp

/-- What every boundary of the running clock does: it ages the entries, and counts itself in the window (R90, R131). -/
theorem boundary_ages {s : Station} (h : s.start.phase = .window ∨ s.start.phase = .running) :
    (boundary s).pools.peers = s.pools.peers.map Peer.aged ∧
    (boundary s).start.boundaries =
      (if s.start.phase = .window then min 4 (s.start.boundaries + 1) else s.start.boundaries) ∧
    (boundary s).start.phase = s.start.phase := by
  rcases h with h | h
  · rw [boundary_window h]
    dsimp only
    split <;> simp [placePresence, Station.older, h]
  · rw [boundary_running h]
    simp [ageEntries_peers, h]

/-! ## A partner that goes ABSENT -/

/-- A paired lead runs as a single station (R56). -/
theorem lead_runs_single {s : Station} (hrun : s.started = true) (hrole : s.start.role = .lead)
    (hpair : s.prog.pair = .leadPaired) :
    (withSetpoint partnerGone s).flag .pairLost = true ∧ (withSetpoint partnerGone s).prog.vessel = false ∧
      (withSetpoint partnerGone s).prog.driveC = 0 ∧ (withSetpoint partnerGone s).prog.driveH = 0 ∧
      (withSetpoint partnerGone s).prog.pair = .leadPaired := by
  have hgone : partnerGone s = runSingle (setFlag .pairLost s) := by simp [partnerGone, hrun, hpair]
  have hsp : (partnerGone s).setpoint = s.setpoint := by simp [Station.setpoint, Station.follower, hrole]
  have hck : (partnerGone s).checked.isSome = s.checked.isSome := by
    simp [Station.checked, hsp, Station.follower, hrole, Station.tAvg]
  have hdrive := (progRecompute_settles
    { setFlag .pairLost s with prog.vessel := false, prog.driveC := 0, prog.driveH := 0 }).prog.drive rfl
  rw [withSetpoint_same hsp hck, hgone]
  refine ⟨?_, ?_, hdrive.1, hdrive.2, ?_⟩
  · have hreq : (runSingle (setFlag .pairLost s)).req = (setFlag .pairLost s).req := by simp
    rw [Station.flag, hreq, ← Station.flag]
    simp
  · simp [runSingle]
  · simp [runSingle, hpair]

/-- What a FOLLOWING follower is left with as it loses its lead (R58). -/
theorem loseLead_following {s : Station} (h : s.prog.pair = .following) :
    (loseLead s).flag .pairLost = true ∧ (loseLead s).prog.pair = .orphan ∧
      (loseLead s).prog.vessel = s.prog.vessel ∧ (loseLead s).prog.driveC = 0 ∧ (loseLead s).prog.driveH = 0 ∧
      (loseLead s).prog.glycol = false ∧ (loseLead s).prog.heater = false ∧
      (loseLead s).prog.lastS = s.prog.lastS := by
  simp [loseLead, dropDrive, h, setHeaterTime, setGlycolTime]

/-- A FOLLOWING follower becomes ORPHAN, and the check by its lead's last setpoint opens no output (R58, R162). -/
theorem follower_orphaned {s : Station} (hrun : s.started = true) (hpair : s.prog.pair = .following)
    (hv : s.prog.vessel = false) :
    (withSetpoint partnerGone s).flag .pairLost = true ∧ (withSetpoint partnerGone s).prog.pair = .orphan ∧
      (withSetpoint partnerGone s).prog.driveC = 0 ∧ (withSetpoint partnerGone s).prog.driveH = 0 ∧
      (withSetpoint partnerGone s).prog.glycol = false ∧ (withSetpoint partnerGone s).prog.heater = false ∧
      (withSetpoint partnerGone s).prog.lastS = s.prog.lastS := by
  have hgone : partnerGone s = loseLead s := by simp [partnerGone, hrun, hpair]
  obtain ⟨hflag, horphan, hvessel, hC, hH, hglycol, hheater, hlast⟩ := loseLead_following hpair
  have hset := withSetpoint_settles partnerGone s
  have hkeep : (withSetpoint partnerGone s).prog.pair = (partnerGone s).prog.pair ∧
      (withSetpoint partnerGone s).prog.lastS = (partnerGone s).prog.lastS := by
    unfold withSetpoint
    dsimp only
    split <;> simp
  rw [hgone] at hset hkeep
  obtain ⟨hdC, hdH⟩ := hset.prog.drive (hvessel.trans hv)
  refine ⟨hset.flags _ hflag, hkeep.1.trans horphan, hdC.trans hC, hdH.trans hH, ?_, ?_, hkeep.2.trans hlast⟩
  · exact Bool.eq_false_iff.mpr fun h => by simpa [hglycol] using hset.prog.glycol h
  · exact Bool.eq_false_iff.mpr fun h => by simpa [hheater] using hset.prog.heater h

/-! ## Claim notices -/

/-- The notice that the statement describes is the one the station places (R123, R104). -/
theorem claimNotice_eq {c : ClaimNotice} {s : Station}
    (hclaims : c.claims = ⟨s.pools.items.heat.own, s.pools.items.chill.own, s.pools.items.gas.own⟩)
    (hseq : c.seq = s.nextSeq) (hrole : c.role = s.roleCarried) (htemp : c.temp = s.tAvg)
    (hset : c.setpoint = s.setpoint) (hok : c.probeOk = (s.sense.beer.state == .ok))
    (hdrive : (c.driveChill, c.driveHeat) =
      (if s.prog.pair = .leadPaired then (s.prog.driveC, s.prog.driveH) else (0, 0))) :
    s.claimNotice = c := by
  have hsent : s.driveSent = (c.driveChill, c.driveHeat) := hdrive.symm
  obtain ⟨role, seq, claims, temp, probeOk, setpoint, driveChill, driveHeat⟩ := c
  simp only at hclaims hseq hrole htemp hset hok hsent
  subst hclaims hseq hrole htemp hset hok
  simp [Station.claimNotice, hsent, Station.beerOk, PerPool.map]

/-- A held request that still stands places its extra notice as the spacing runs out (R124). -/
theorem claimSpacingExpiry_places {s : State} (hp : s.station.powered = true) (hrun : s.station.started = true)
    (hmute : s.station.link.mute = false) (hspace : s.station.link.spacingMs.isSome = true)
    (hheld : s.station.link.extraHeld = true) (hstands : s.station.extraStands = true) :
    exec .claimSpacingExpiry s = .next (s.on placeRegular) := by
  refine (act_powered hp _).trans (next_congr ?_)
  dsimp only
  rw [if_neg (by simp [Option.isNone_eq_false_iff.mpr hspace]), if_pos (by simp [hheld, hstands, hrun, hmute])]
  rfl

/-- One that does not lapses (R124). -/
theorem claimSpacingExpiry_lapses {s : State} (hp : s.station.powered = true)
    (hspace : s.station.link.spacingMs.isSome = true)
    (hno : s.station.link.extraHeld = false ∨ s.station.extraStands = false) :
    exec .claimSpacingExpiry s =
      .next ⟨{ s.station with
               link.spacingMs := none
               link.extraHeld := false }, s.pending⟩ := by
  refine (act_powered hp _).trans (next_congr ?_)
  rcases hno with h | h <;> simp [Option.isNone_eq_false_iff.mpr hspace, h]

/-- Settles O43. -/
theorem noticesKeepTheirPlacesAndTheViewAges : Obligations.NoticesKeepTheirPlacesAndTheViewAges := by
  unfold Obligations.NoticesKeepTheirPlacesAndTheViewAges
  refine ⟨fun s hp hphase => ?ages, fun e s hp hrun he hsilent hage => ?partner, fun s hw hsent => ?presence,
    fun c k s hp hrun hk hclaims hseq hrole htemp hset hok hdrive => ?claim⟩
  case ages =>
    obtain ⟨hpeers, hcount, hkept⟩ := boundary_ages hphase
    refine ⟨_, act_powered hp _, rfl, ?_, hcount, hkept, by simp, fun hw => ?_, fun hw => ?_⟩
    · exact hpeers.trans (List.map_congr_left fun e _ => e.aged_eq)
    · exact (boundary_window_pres hw).1
    · exact (boundary_window_pres hw).2
  case partner =>
    have hb : boundary s.station = withSetpoint partnerGone (viewChanged (muteCounted s.station).older) :=
      (boundary_running hrun).trans (ageEntries_gone (s := muteCounted s.station) he hsilent hage)
    have hrun' : (viewChanged (muteCounted s.station).older).started = true := by
      simp [Station.started, hrun]
    refine ⟨fun hrole hpair => ⟨_, act_powered hp _, rfl, ?_⟩, fun _ hpair hv => ⟨_, act_powered hp _, rfl, ?_⟩⟩
    · rw [State.on_station, hb]
      exact lead_runs_single hrun' (by simpa using hrole) (by simpa using hpair)
    · rw [State.on_station, hb]
      simpa using follower_orphaned hrun' (by simpa using hpair) (by simpa using hv)
  case presence =>
    refine (act_powered (by simp [Station.powered, hw]) _).trans (next_congr ?_)
    simp [presencePlacement, hw, hsent, placePresence]
  case claim =>
    have hnext : k = s.station.nextSeq := hk
    have hstarted : s.station.started = true := by simp [Station.started, hrun]
    have hc : s.station.claimNotice = c :=
      claimNotice_eq hclaims (hseq.trans hnext) hrole htemp hset hok hdrive
    subst hc hnext
    refine ⟨fun hmute => ?_, fun hmute => ⟨?_, ?_⟩, fun hmute hspace hheld hstands => ?_, fun hspace hno => ?_⟩
    · refine (act_powered hp _).trans (next_congr ?_)
      simp [hstarted, hmute, placeRegular, placeClaim, Config.spacingMs]
    · exact act_same (by simp [hmute])
    · refine (act_powered hp _).trans (next_congr ?_)
      simp [hstarted, hmute, placeClaim]
    · exact claimSpacingExpiry_places hp hstarted hmute hspace hheld hstands
    · exact claimSpacingExpiry_lapses hp hspace hno

end Sys2Proof.Machine
end

section
/-! PROOFS. Step 1 of a start: the straps, and the start values of every block (R127, R128). -/
namespace Sys2Proof.Machine
open Sys2Proof

/-- At a start every flag's mask mark is enabled (R199). -/
theorem Flag.masked_at_start (f : Flag) : (0xFFFFF#20).getLsbD f.pos = true := by
  cases f <;> rfl

/-- The first flag after a start stands alone, in the cause set as well, and its report is placed (R194, R197). -/
theorem setFlag_at_start {f : Flag} {s : Station} (hreq : s.req = {}) (htx : s.link.tx = none) :
    ∃ report, setFlag f s =
      { s with link.evt := report, req.flags := f.bit, req.cause := f.bit } := by
  have hunset : s.flag f = false := by simp [Station.flag, hreq]
  refine ⟨s.link.evt.place false
    { head := statusHead { s with req.flags := f.bit, req.cause := f.bit }, cause := f.bit }, ?_⟩
  simp [setFlag, hunset, placeReport, htx, hreq, f.masked_at_start]

/-- Step 1 leaves every block at its start value but for the flag of the strap table, its cause and its report (R127,
R128). -/
theorem coldStart_eq (p : Pins) (s : Station) :
    ∃ report, coldStart p s =
      { freshStation s.nv p with
        link.evt := report
        req.flags := (settleRole p.id p.pair).2.elim 0 Flag.bit
        req.cause := (settleRole p.id p.pair).2.elim 0 Flag.bit } := by
  unfold coldStart strapFlag
  cases (settleRole p.id p.pair).2 with
  | none => exact ⟨_, rfl⟩
  | some f => exact setFlag_at_start rfl rfl

/-- The strap table (R128). -/
theorem settleRole_table (id : BitVec 3) (pair : BitVec 2) :
    (pair = 0 → settleRole id pair = (.single, none)) ∧
    (pair = 1 → id ≠ 7 → settleRole id pair = (.lead, none)) ∧
    (pair = 1 → id = 7 → settleRole id pair = (.single, some .pairMismatch)) ∧
    (pair = 2 → id ≠ 0 → settleRole id pair = (.follower, none)) ∧
    (pair = 2 → id = 0 → settleRole id pair = (.single, some .pairMismatch)) ∧
    (pair = 3 → settleRole id pair = (.single, some .pairStrap)) := by
  refine ⟨?_, ?_, ?_, ?_, ?_, ?_⟩ <;> rintro rfl <;> simp +contextual [settleRole]

/-- Settles O5: the strap table, and the one equation of a cold start. -/
theorem startGivesRoleAndStartValues : Obligations.StartGivesRoleAndStartValues := by
  unfold Obligations.StartGivesRoleAndStartValues
  refine ⟨fun p s hp => ?straps, fun p s => ?values⟩
  case straps =>
    obtain ⟨report, hcold⟩ := coldStart_eq p s.station
    obtain ⟨hsingle, hlead, hlast, hfollower, hfirst, hbad⟩ := settleRole_table p.id p.pair
    refine ⟨_, rfl, act_powered hp _, rfl, ?_⟩
    rw [State.on_station, hcold]
    refine ⟨rfl, rfl, fun h => ?_, fun h hid => ?_, fun h hid => ?_, fun h hid => ?_, fun h hid => ?_, fun h => ?_⟩
    · simp [freshStation, hsingle h]
    · simp [freshStation, hlead h hid]
    · simp [freshStation, hlast h hid]
    · simp [freshStation, hfollower h hid]
    · simp [freshStation, hfirst h hid]
    · simp [freshStation, hbad h]
  case values =>
    obtain ⟨report, hcold⟩ := coldStart_eq p s.station
    refine ⟨_, rfl, rfl, ?_⟩
    rw [State.on_station, hcold]
    simp [freshStation]

end Sys2Proof.Machine
end

section
/-! SUPPORT. What no fault, posting or grant touches of the notices while the window is open: the budgets, the presence
slot, and a claim slot with nothing waiting in it (R86, R97, R116, R124). One equation for each operation on the way. -/
namespace Sys2Proof.Machine
open Sys2Proof

/-- The budgets, the presence slot, and, while the window is open and no claim notice waits, the claim slot with the
last sequence number. -/
structure NoticeView where
  budgets : PerPool Nat
  pres : Slot PresNotice
  claim : Option (Slot ClaimNotice × Option Nat)

/-- The view of a station. -/
def Station.noticeView (s : Station) : NoticeView where
  budgets := s.pools.items.map (·.budget)
  pres := s.link.pres
  claim := bif s.started || s.claimWaits then none else some (s.link.claim, s.link.seq)

/-- The view reads the start, the pools and the link. -/
theorem noticeView_congr {s t : Station} (hstart : t.start = s.start) (hpools : t.pools = s.pools)
    (hlink : t.link = s.link) : t.noticeView = s.noticeView := by
  simp only [Station.noticeView, Station.started, Station.claimWaits, hstart, hpools, hlink]

/-- A change of any other unit leaves the view. -/
theorem noticeView_update (s : Station) (nv : Nv) (sense : Sense) (keg : Keg) (prog : Prog) (press : Press)
    (pour : Pour) (exc : Exc) (health : Health) (req : Req) (subMs : Nat) :
    Station.noticeView ⟨nv, s.start, sense, keg, prog, press, s.pools, s.link, pour, exc, health, req, subMs⟩ =
      s.noticeView :=
  rfl

/-- The budgets that a view shows. -/
theorem noticeView_budgets {s : Station} {b : PerPool Nat} (h : s.noticeView.budgets = b) :
    s.pools.items.heat.budget = b.heat ∧ s.pools.items.chill.budget = b.chill ∧ s.pools.items.gas.budget = b.gas := by
  subst h
  exact ⟨rfl, rfl, rfl⟩

/-- The claim slot that a view shows, where it shows one. -/
theorem noticeView_claim {s : Station} {c : Slot ClaimNotice × Option Nat} (h : s.noticeView.claim = some c) :
    s.link.claim = c.1 ∧ s.link.seq = c.2 := by
  cases hidle : s.started || s.claimWaits
  · simp only [Station.noticeView, hidle, cond_false, Option.some.injEq] at h
    subst h
    exact ⟨rfl, rfl⟩
  · simp [Station.noticeView, hidle] at h

/-! ## Flags and the record -/

theorem setFlag_noticeView (f : Flag) (s : Station) : (setFlag f s).noticeView = s.noticeView := by
  unfold setFlag
  dsimp only
  (repeat' split) <;> rfl

theorem setFlagIf_noticeView (c : Bool) (f : Flag) (s : Station) : (setFlagIf c f s).noticeView = s.noticeView := by
  cases c
  · rfl
  · exact setFlag_noticeView f s

theorem gradeFlags_noticeView (a b : AttrState) (s : Station) : (gradeFlags a b s).noticeView = s.noticeView := by
  unfold gradeFlags
  split <;> simp only [setFlag_noticeView]

theorem writeBatch_noticeView (f : Batch → Batch) (s : Station) : (writeBatch f s).noticeView = s.noticeView :=
  noticeView_congr (by simp) (by simp) (by simp)

theorem commitTrigger_noticeView (s : Station) : (commitTrigger s).noticeView = s.noticeView :=
  noticeView_congr (by simp) (by simp) (by simp)

/-! ## Grants and claim notices -/

/-- An item rewritten with its budget as it was. -/
theorem setItem_noticeView {p : Pool} {it : PoolItem} {s : Station} (h : it.budget = (s.item p).budget) :
    (s.setItem p it).noticeView = s.noticeView := by
  have hbudgets : (s.pools.items.set p it).map (·.budget) = s.pools.items.map (·.budget) := by
    cases p <;> simp_all [PerPool.map, PerPool.set, Station.item, PerPool.get]
  simp only [Station.noticeView, Station.started, Station.claimWaits, setItem_frame, Station.setItem_items, hbudgets]

theorem applyGrant_noticeView (p : Pool) (g : Nat) (s : Station) : (applyGrant p g s).noticeView = s.noticeView := by
  have hhand (a b : Nat) (r : Station) : (handOn p a b r).noticeView = r.noticeView :=
    noticeView_congr (by simp) (by simp) (by simp)
  exact (hhand _ _ _).trans (setItem_noticeView (by simp))

theorem recompute_noticeView (p : Pool) (s : Station) : (recompute p s).noticeView = s.noticeView := by
  unfold recompute
  split
  · rfl
  · exact applyGrant_noticeView p _ s

theorem recomputeAll_noticeView (s : Station) : (recomputeAll s).noticeView = s.noticeView := by
  simp only [recomputeAll, recompute_noticeView]

theorem refreshAll_noticeView (s : Station) : (refreshAll s).noticeView = s.noticeView := by
  simp only [refreshAll, applyGrant_noticeView]

theorem setOwn_noticeView (p : Pool) (c : Claim) (s : Station) : (setOwn p c s).noticeView = s.noticeView := by
  unfold setOwn
  dsimp only
  split
  · rfl
  · exact (recompute_noticeView p _).trans (setItem_noticeView rfl)

theorem postOne_noticeView (p : Pool) (c : Claim) (s : Station) : (postOne p c s).noticeView = s.noticeView :=
  (setOwn_noticeView p _ _).trans (setItem_noticeView rfl)

/-- After the window the view shows no claim slot. -/
theorem noticeView_started {s t : Station} (h : s.started = true) (hstart : t.start = s.start)
    (hpools : t.pools = s.pools) (hpres : t.link.pres = s.link.pres) : t.noticeView = s.noticeView := by
  have h' : t.started = true := by rwa [Station.started, hstart]
  simp only [Station.noticeView, hpools, hpres, h, h', Bool.true_or, cond_true]

/-- An extra notice is not asked for in the window (R124). -/
theorem askExtra_noticeView (s : Station) : (askExtra s).noticeView = s.noticeView := by
  cases h : s.started
  · simp [askExtra, h]
  · exact noticeView_started h (by simp) (by simp) (by simp)

/-- A fresh claim notice in place of one that waits leaves one waiting. -/
theorem placeClaim_noticeView {s : Station} (h : s.claimWaits = true) : (placeClaim s).noticeView = s.noticeView := by
  have h' : (placeClaim s).claimWaits = true := by
    cases htx : s.link.tx == some .claim <;> simp [Station.claimWaits, placeClaim, Slot.waiting, htx]
  simp only [Station.noticeView, h, h', Bool.or_true, cond_true, placeClaim_frame, placeClaim_pres]

theorem afterPosting_noticeView (b : PerPool Claim) (s : Station) : (afterPosting b s).noticeView = s.noticeView := by
  unfold afterPosting claimsChanged
  split
  · rfl
  · split
    · next h => exact placeClaim_noticeView (Bool.and_eq_true_iff.mp h).1
    · exact askExtra_noticeView s

theorem askWhereRaised_noticeView (f : Station → Station) (s : Station) :
    (askWhereRaised f s).noticeView = (f s).noticeView := by
  unfold askWhereRaised
  dsimp only
  split
  · exact askExtra_noticeView _
  · rfl

/-! ## Postings -/

theorem postProgram_noticeView (h c : Claim) (s : Station) : (postProgram h c s).noticeView = s.noticeView := by
  simp only [postProgram, afterPosting_noticeView, postOne_noticeView]

theorem postDemands_noticeView (s : Station) : (postDemands s).noticeView = s.noticeView := by
  unfold postDemands
  dsimp only
  split <;> simp only [postProgram_noticeView, noticeView_update]

theorem progRecompute_noticeView (s : Station) : (progRecompute s).noticeView = s.noticeView := by
  unfold progRecompute
  split
  · exact postDemands_noticeView s
  · rfl

theorem postGasNow_noticeView (s : Station) : (postGasNow s).noticeView = s.noticeView := by
  have hsync (r : Station) : (syncGas r).noticeView = r.noticeView := noticeView_congr (by simp) (by simp) (by simp)
  simp only [postGasNow, postGas, hsync, afterPosting_noticeView, postOne_noticeView]

theorem decideNow_noticeView (v w r : Bool) (s : Station) : (decideNow v w r s).noticeView = s.noticeView := by
  simp only [decideNow, setVent, postGasNow_noticeView, noticeView_update]

theorem gasDecided_noticeView (f : Station → Station) (s : Station) :
    (gasDecided f s).noticeView = (f s).noticeView := by
  unfold gasDecided
  dsimp only
  split
  · rfl
  · exact decideNow_noticeView _ _ _ _

theorem regrant_noticeView (s : Station) : (regrant s).noticeView = s.noticeView := by
  simp only [regrant, gasDecided_noticeView, askWhereRaised_noticeView, recomputeAll_noticeView]

theorem refreshGrants_noticeView (s : Station) : (refreshGrants s).noticeView = s.noticeView := by
  simp only [refreshGrants, gasDecided_noticeView, askWhereRaised_noticeView, refreshAll_noticeView]

theorem imposeHold_noticeView (s : Station) : (imposeHold s).noticeView = s.noticeView := by
  unfold imposeHold
  split
  · exact decideNow_noticeView _ _ _ s
  · exact (gasDecided_noticeView _ s).trans (postGasNow_noticeView s)

/-! ## Pours -/

theorem endTestEarly_noticeView (o : TestOutcome) (s : Station) : (endTestEarly o s).noticeView = s.noticeView := by
  unfold endTestEarly testEnded
  split
  · rfl
  · simp only [decideNow_noticeView, setFlag_noticeView, writeDesc, noticeView_update]

theorem toldActive_noticeView (s : Station) : (toldActive s).noticeView = s.noticeView := by
  unfold toldActive enterActive decideAsIs
  split <;> simp only [postGasNow_noticeView, decideNow_noticeView, noticeView_update]

theorem setTap_noticeView (v : Bool) (s : Station) : (setTap v s).noticeView = s.noticeView :=
  noticeView_congr (by simp) (by simp) (by simp)

theorem beginPour_noticeView (tag : Nat) (kind : OrderKind) (requested : Nat) (level : Option Nat) (limit : Nat)
    (s : Station) : (beginPour tag kind requested level limit s).noticeView = s.noticeView := by
  unfold beginPour
  dsimp only
  split <;>
    simp only [toldActive_noticeView, setTap_noticeView, toldPriming, decideAsIs, decideNow_noticeView,
      noticeView_update, endTestEarly_noticeView]

theorem testHead_noticeView (s : Station) : (testHead s).noticeView = s.noticeView := by
  unfold testHead startOrder
  (repeat' split) <;> simp only [beginPour_noticeView]

theorem placePourReport_noticeView (r : PourReport) (s : Station) : (placePourReport r s).noticeView = s.noticeView :=
  rfl

theorem completeUnstarted_noticeView (out : PourOutcome) (o : Order) (s : Station) :
    (completeUnstarted out o s).noticeView = s.noticeView := by
  simp only [completeUnstarted, writePour, testHead_noticeView, placePourReport_noticeView, writeBatch_noticeView]

theorem endQueued_noticeView (out : PourOutcome) (s : Station) : (endQueued out s).noticeView = s.noticeView := by
  have hfold (l : List Order) (r : Station) :
      (l.foldl (fun s o => completeUnstarted out o s) r).noticeView = r.noticeView := by
    induction l generalizing r with
    | nil => rfl
    | cons o l ih => exact (ih _).trans (completeUnstarted_noticeView out o r)
  simp only [endQueued, hfold, noticeView_update]

theorem foamRunAfter_noticeView (d : DrainPour) (s : Station) : (foamRunAfter d s).noticeView = s.noticeView := by
  have hempty : (declareEmpty s).noticeView = s.noticeView := by
    simp only [declareEmpty, noticeView_update, endQueued_noticeView, setFlag_noticeView, writeBatch_noticeView]
  unfold foamRunAfter
  (repeat' split) <;> simp only [hempty, noticeView_update]

theorem pouredVolume_noticeView (d : Nat) (s : Station) : (pouredVolume d s).noticeView = s.noticeView := by
  unfold pouredVolume
  dsimp only
  (repeat' split) <;> simp only [clearGasCounts, measureGas, gradeFlags_noticeView, noticeView_update]

theorem completePour_noticeView (drained : Bool) (d : DrainPour) (s : Station) :
    (completePour drained d s).noticeView = s.noticeView := by
  unfold completePour
  dsimp only
  split <;>
    simp only [testHead_noticeView, pouredVolume_noticeView, placePourReport_noticeView, noticeView_update,
      foamRunAfter_noticeView, writePour, writeBatch_noticeView]

theorem closePour_noticeView (out : PourOutcome) (s : Station) : (closePour out s).noticeView = s.noticeView := by
  unfold closePour
  split
  · rfl
  · dsimp only
    split <;>
      simp only [completePour_noticeView, toldEnd, decideNow_noticeView, setTap_noticeView, noticeView_update]

/-! ## Faults, resume, and the check -/

/-- The safe actions of the four blocks, in their order (R165, R166). -/
theorem safeActions_noticeView (s : Station) :
    (overpressurePour (refreshGrants (imposeHold (progRecompute s)))).noticeView = s.noticeView := by
  unfold overpressurePour
  split <;>
    simp only [closePour_noticeView, refreshGrants_noticeView, imposeHold_noticeView, progRecompute_noticeView]

theorem placeExcursion_noticeView (s : Station) : (placeExcursion s).noticeView = s.noticeView := rfl

theorem firstFault_noticeView (k : FaultKind) (s : Station) : (firstFault k s).noticeView = s.noticeView := by
  simp only [firstFault, setFlag_noticeView, placeExcursion_noticeView, openEntry, noticeView_update,
    endTestEarly_noticeView, safeActions_noticeView, writeRun, writeBatch_noticeView]

theorem lockoutEntry_noticeView (k : FaultKind) (s : Station) : (lockoutEntry k s).noticeView = s.noticeView := by
  simp only [lockoutEntry, setFlag_noticeView, placeExcursion_noticeView, commitTrigger_noticeView, openEntry,
    noticeView_update, endTestEarly_noticeView, endQueued_noticeView, closePour_noticeView, refreshGrants_noticeView,
    imposeLockout, setVent, postGasNow_noticeView, closeThermal, progRecompute_noticeView]

theorem takeFault_noticeView (k : FaultKind) (s : Station) : (takeFault k s).noticeView = s.noticeView := by
  unfold takeFault refreshHold
  (repeat' split) <;>
    simp only [lockoutEntry_noticeView, firstFault_noticeView, safeActions_noticeView, noticeView_update]

theorem resumeStation_noticeView (s : Station) : (resumeStation s).noticeView = s.noticeView := by
  simp only [resumeStation, testHead_noticeView, placeExcursion_noticeView, closeEntry, noticeView_update,
    refreshGrants_noticeView, liftHold, decideAsIs, decideNow_noticeView, progRecompute_noticeView, writeRun,
    writeBatch_noticeView]

theorem setCond_noticeView (k : FaultKind) (v : Bool) (s : Station) : (setCond k v s).noticeView = s.noticeView := by
  have hset (v : Bool) : (setStanding k v s).noticeView = s.noticeView :=
    noticeView_congr (by simp) (by simp) (by simp)
  unfold setCond assertCond withdrawCond
  dsimp only
  (repeat' split) <;> simp only [takeFault_noticeView, resumeStation_noticeView, noticeView_update, hset]

/-- The temperature check, whatever it brings about, places no claim notice in the window and leaves the budgets. -/
theorem tempCheck_noticeView (advance : Bool) (s : Station) : (tempCheck advance s).noticeView = s.noticeView := by
  unfold tempCheck
  split <;> simp only [setCond_noticeView, noticeView_update]

theorem withSetpoint_noticeView (f : Station → Station) (s : Station) :
    (withSetpoint f s).noticeView = (f s).noticeView := by
  unfold withSetpoint
  dsimp only
  split
  · rfl
  · exact (noticeView_congr (by simp) (by simp) (by simp)).trans (tempCheck_noticeView false _)

/-! ## The control period -/

theorem inBand_noticeView (s : Station) : (inBand s).noticeView = s.noticeView := by
  have hclose (r : Station) : (closeChill r).noticeView = r.noticeView := by
    unfold closeChill measureChill
    dsimp only
    (repeat' split) <;> simp only [gradeFlags_noticeView, noticeView_update]
  unfold inBand
  (repeat' split) <;> simp only [hclose, noticeView_update]

theorem startCycle_noticeView (s : Station) : (startCycle s).noticeView = s.noticeView := by
  have htimes (r : Station) : (setPairDrive (cycleTimes r)).noticeView = r.noticeView :=
    noticeView_congr (by simp) (by simp) (by simp)
  simp only [startCycle, starvedTest, setFlagIf_noticeView, noticeView_update, htimes]

/-- A control period places no notice while the window is open (R124; log 51). -/
theorem controlPeriod_noticeView (s : Station) : (controlPeriod s).noticeView = s.noticeView := by
  have hpair (r : Station) : (pairAtCycle r).noticeView = r.noticeView :=
    noticeView_congr (by simp) (by simp) (by simp)
  have hreach (n : Nat) (r : Station) : (cycleReaches n r).noticeView = r.noticeView :=
    noticeView_congr (by simp) (by simp) (by simp)
  unfold controlPeriod
  split
  · simp only [startCycle_noticeView, postDemands_noticeView, latchDemands, noticeView_update, inBand_noticeView,
      withSetpoint_noticeView, hpair, hreach]
  · rfl

end Sys2Proof.Machine
end

section
/-! PROOFS. The window's end: its steps, the outcomes of the pair's check, and the first control period (R124, R133 to
R136). -/
namespace Sys2Proof.Machine
open Sys2Proof

/-! ## The first control period -/

/-- From `s` to `t` the excursion unit and the pair's state stay, the cycles go on, and every flag that stood stands. -/
structure Station.PairStands (s t : Station) : Prop where
  exc : t.exc = s.exc
  pair : t.prog.pair = s.prog.pair
  mismatch : t.prog.mismatch = s.prog.mismatch
  cycleOn : t.prog.cycleOn = s.prog.cycleOn
  flags : ∀ f, s.flag f = true → t.flag f = true

theorem Station.PairStands.trans {s t u : Station} (a : s.PairStands t) (b : t.PairStands u) : s.PairStands u :=
  ⟨b.exc.trans a.exc, b.pair.trans a.pair, b.mismatch.trans a.mismatch, b.cycleOn.trans a.cycleOn,
    fun f hf => b.flags f (a.flags f hf)⟩

theorem cycleReaches_pairStands (n : Nat) (s : Station) : s.PairStands (cycleReaches n s) :=
  ⟨by simp, by simp, by simp, by simp, fun f hf => by simpa [Station.flag] using hf⟩

/-- Where no claim of a lead waits to be followed, a cycle start changes of the pair the vessel rules at most (R56,
R58). -/
theorem pairAtCycle_unheard {s : Station} (h : s.prog.leadHeard = false) :
    ∃ v, pairAtCycle s = { s with prog.vessel := v } := by
  unfold pairAtCycle
  rw [if_neg (by simp [h])]
  split
  · exact ⟨true, rfl⟩
  · exact ⟨s.prog.vessel, rfl⟩

theorem pairAtCycle_pairStands {s : Station} (h : s.prog.leadHeard = false) :
    s.PairStands (withSetpoint pairAtCycle s) := by
  obtain ⟨v, hv⟩ := pairAtCycle_unheard h
  rw [withSetpoint_same (by rw [hv]; rfl) (by rw [hv]; rfl), hv]
  exact ⟨rfl, rfl, rfl, rfl, fun _ => id⟩

theorem inBand_pairStands (s : Station) : s.PairStands (inBand s) := by
  obtain ⟨n, hprog⟩ := inBand_prog s
  refine ⟨by simp, by simp [hprog], by simp [hprog], by simp [hprog], ?_⟩
  have hclose (r : Station) : r.Settles (closeChill r) := by
    unfold closeChill measureChill
    dsimp only
    (repeat' split)
    case h_1 => exact .refl r
    case isTrue =>
      refine .trans ?_ (gradeFlags_settles _ _ _)
      exact .of_eq rfl rfl
    all_goals exact .of_eq rfl rfl
  unfold inBand
  split
  · exact fun _ => id
  · split
    · split
      · exact fun _ => id
      · split
        · exact fun f hf => (hclose _).flags f hf
        · exact fun _ => id
    · exact fun _ => id

theorem startCycle_pairStands (s : Station) : s.PairStands (startCycle s) ∧ (startCycle s).prog.cycleMs = 0 := by
  simp only [startCycle, starvedTest, setPairDrive, cycleTimes]
  (repeat' split)
  all_goals
    refine ⟨⟨by simp, by simp, by simp, by simp, fun f hf => ?_⟩, by simp⟩
    rw [setFlagIf_flag, Bool.or_eq_true]
    exact .inl hf

/-- A control period where no claim of a lead waits to be followed (R48, R53). -/
theorem controlPeriod_unheard {s : Station} (hon : s.prog.cycleOn = true) (h : s.prog.leadHeard = false) :
    s.PairStands (controlPeriod s) ∧ (controlPeriod s).prog.cycleMs = 0 := by
  have hpost (r : Station) : r.PairStands (postDemands (latchDemands r)) :=
    ⟨by simp, by simp [latchDemands], by simp [latchDemands], by simp [latchDemands],
      (postDemands_settles (latchDemands r)).flags⟩
  rw [controlPeriod_eq hon, periodBegun]
  refine ⟨?_, (startCycle_pairStands _).2⟩
  refine .trans ?_ (startCycle_pairStands _).1
  refine .trans ?_ (hpost _)
  refine .trans ?_ (inBand_pairStands _)
  exact (cycleReaches_pairStands _ s).trans (pairAtCycle_pairStands (by simpa using h))

/-! ## The steps of the window's end -/

/-- Step 1 adopts the lowest budgets (R133). -/
theorem adoptBudgets_noticeView (s : Station) :
    (adoptBudgets s).noticeView = { s.noticeView with budgets := s.start.lowest } := by
  unfold adoptBudgets
  dsimp only
  rw [regrant_noticeView, setFlagIf_noticeView]
  rfl

/-- A budget that falls below the station's own setup is reported (R133). -/
theorem adoptBudgets_reduced {s : Station}
    (h : s.start.lowest.heat < s.start.setup.budget.heat ∨ s.start.lowest.chill < s.start.setup.budget.chill ∨
      s.start.lowest.gas < s.start.setup.budget.gas) : (adoptBudgets s).flag .budgetReduced = true := by
  have hregrant (r : Station) (f : Flag) : (regrant r).flag f = r.flag f := by simp [Station.flag]
  simp [adoptBudgets, hregrant, h]

/-- It leaves the pair's state and the view of the other stations. -/
theorem adoptBudgets_pair (s : Station) :
    (adoptBudgets s).prog.pair = s.prog.pair ∧ (adoptBudgets s).prog.leadHeard = s.prog.leadHeard ∧
      (adoptBudgets s).peer? (adoptBudgets s).partnerId = s.peer? s.partnerId := by
  simp [adoptBudgets, Station.peer?, Station.partnerId, Station.follower]

theorem settlePair_noticeView (s : Station) : (settlePair s).noticeView = s.noticeView := by
  unfold settlePair
  (repeat' split) <;> simp only [setFlag_noticeView, noticeView_update]

theorem settlePair_flags {f : Flag} {s : Station} (h : s.flag f = true) : (settlePair s).flag f = true := by
  have hprog (p : Prog) : Station.flag { s with prog := p } f = true := h
  unfold settlePair
  (repeat' split) <;> simp [hprog]

@[simp] theorem settlePair_leadHeard (s : Station) : (settlePair s).prog.leadHeard = s.prog.leadHeard := by
  unfold settlePair
  (repeat' split) <;> simp

/-- The outcomes of a lead (R135). -/
theorem settlePair_lead {s : Station} (hrole : s.start.role = .lead) :
    (∀ e, s.peer? s.partnerId = some e → e.role = .follower → e.state ≠ .absent →
      (settlePair s).prog.pair = .leadPaired) ∧
    (∀ e, s.peer? s.partnerId = some e → e.role ≠ .follower →
      (settlePair s).prog.pair = .leadUnpaired ∧ (settlePair s).prog.mismatch = true ∧
        (settlePair s).flag .pairMismatch = true) ∧
    (s.peer? s.partnerId = none →
      (settlePair s).prog.pair = .leadUnpaired ∧ (settlePair s).flag .pairMissing = true) := by
  refine ⟨fun e he hfollows hheard => ?_, fun e he hother => ?_, fun hnone => ?_⟩
  · simp [settlePair, hrole, he, hfollows, hheard]
  · simp [settlePair, hrole, he, hother]
  · simp [settlePair, hrole, hnone]

/-- The outcomes of a follower (R136). -/
theorem settlePair_follower {s : Station} (hrole : s.start.role = .follower) :
    (∀ e, s.peer? s.partnerId = some e → e.role = .lead → e.state ≠ .absent →
      (settlePair s).prog.pair = .following) ∧
    (∀ e, s.peer? s.partnerId = some e → e.role ≠ .lead →
      (settlePair s).prog.pair = .orphan ∧ (settlePair s).flag .pairMismatch = true) ∧
    (s.peer? s.partnerId = none →
      (settlePair s).prog.pair = .orphan ∧ (settlePair s).flag .pairMissing = true) := by
  refine ⟨fun e he hleads hheard => ?_, fun e he hother => ?_, fun hnone => ?_⟩
  · simp [settlePair, hrole, he, hleads, hheard]
  · simp [settlePair, hrole, he, hother]
  · simp [settlePair, hrole, hnone]

/-- The check of R162 leaves the pair's state. -/
theorem withSetpoint_pair (f : Station → Station) (s : Station) :
    (withSetpoint f s).prog.pair = (f s).prog.pair ∧ (withSetpoint f s).prog.mismatch = (f s).prog.mismatch ∧
      (withSetpoint f s).prog.leadHeard = (f s).prog.leadHeard := by
  unfold withSetpoint
  dsimp only
  split <;> simp

/-- On a station that is no follower the outcome moves no setpoint, and nothing is checked (R40, R162). -/
theorem withSetpoint_settlePair {s : Station} (h : s.start.role ≠ .follower) :
    withSetpoint settlePair s = settlePair s := by
  have hsp : (settlePair s).setpoint = s.setpoint := by simp [Station.setpoint, Station.follower, h]
  exact withSetpoint_same hsp (by simp [Station.checked, Station.follower, Station.tAvg, h, hsp])

/-- The station as the steps of the window's end leave it, before the first control period (R133). -/
def windowSettled (s : Station) : Station := clearH (emptyPresence (withSetpoint settlePair (adoptBudgets s)))

/-- With its four boundaries counted the window's end is its steps and the first control period (R133). -/
theorem windowEnd_eq {s : Station} (hw : s.start.phase = .window) (hb : s.start.boundaries = 4) :
    windowEnd s = { controlPeriod (windowSettled s) with start.phase := .running } := by
  simp [windowEnd, windowSettled, hw, hb]

theorem windowSettled_noticeView (s : Station) :
    (windowSettled s).noticeView = { s.noticeView with budgets := s.start.lowest, pres := {} } := by
  have hempty (r : Station) : (clearH (emptyPresence r)).noticeView = { r.noticeView with pres := {} } := rfl
  rw [windowSettled, hempty, withSetpoint_noticeView, settlePair_noticeView, adoptBudgets_noticeView]

/-- The pair as the window's end settles it, and the flags that stand then. -/
theorem windowSettled_pair (s : Station) :
    (windowSettled s).prog.cycleOn = true ∧ (windowSettled s).prog.leadHeard = s.prog.leadHeard ∧
      (windowSettled s).prog.pair = (settlePair (adoptBudgets s)).prog.pair ∧
      (windowSettled s).prog.mismatch = (settlePair (adoptBudgets s)).prog.mismatch ∧
      ∀ f, (settlePair (adoptBudgets s)).flag f = true → (windowSettled s).flag f = true := by
  obtain ⟨hpair, hmis, hheard⟩ := withSetpoint_pair settlePair (adoptBudgets s)
  obtain ⟨-, hadopted, -⟩ := adoptBudgets_pair s
  refine ⟨rfl, ?_, by simp [windowSettled, hpair], by simp [windowSettled, hmis], ?_⟩
  · simp [windowSettled, hheard, hadopted]
  · intro f hf
    simpa [windowSettled, Station.flag] using (withSetpoint_settles settlePair (adoptBudgets s)).flags f hf

/-- H clears in NORMAL, and nothing else of the excursion unit changes where the station is no follower (R133). -/
theorem windowSettled_exc {s : Station} (h : s.start.role ≠ .follower) :
    (windowSettled s).exc = { s.exc with h := if s.exc.state = .normal then false else s.exc.h } := by
  rw [windowSettled, withSetpoint_settlePair (by simpa using h)]
  simp [clearH]

/-- What the window's end leaves of the pair, of the excursion unit and of the flags is what its steps have settled. -/
theorem windowEnd_pairStands {s : Station} (hw : s.start.phase = .window) (hb : s.start.boundaries = 4)
    (hh : s.prog.leadHeard = false) :
    (windowSettled s).PairStands (windowEnd s) ∧ (windowEnd s).prog.cycleMs = 0 := by
  obtain ⟨hon, hheard, -⟩ := windowSettled_pair s
  have hperiod := controlPeriod_unheard hon (hheard.trans hh)
  rw [windowEnd_eq hw hb]
  generalize controlPeriod (windowSettled s) = r at hperiod ⊢
  obtain ⟨⟨hexc, hpair, hmis, hcycle, hflags⟩, hms⟩ := hperiod
  exact ⟨⟨hexc, hpair, hmis, hcycle, hflags⟩, hms⟩

/-- The budgets adopted, the presence slot emptied, and a claim slot with nothing in it left so (R124, R133). -/
theorem windowEnd_notices {s : Station} (hw : s.start.phase = .window) (hb : s.start.boundaries = 4) :
    (windowEnd s).pools.items.heat.budget = s.start.lowest.heat ∧
      (windowEnd s).pools.items.chill.budget = s.start.lowest.chill ∧
      (windowEnd s).pools.items.gas.budget = s.start.lowest.gas ∧ (windowEnd s).link.pres = {} ∧
      (s.link.claim = {} → (windowEnd s).link.claim = {} ∧ (windowEnd s).link.seq = s.link.seq) := by
  have hview : (controlPeriod (windowSettled s)).noticeView =
      { s.noticeView with budgets := s.start.lowest, pres := {} } :=
    (controlPeriod_noticeView _).trans (windowSettled_noticeView s)
  rw [windowEnd_eq hw hb]
  generalize controlPeriod (windowSettled s) = r at hview ⊢
  obtain ⟨hheat, hchill, hgas⟩ := noticeView_budgets (congrArg NoticeView.budgets hview)
  refine ⟨hheat, hchill, hgas, congrArg NoticeView.pres hview, fun hclaim => ?_⟩
  have hidle : s.noticeView.claim = some ({}, s.link.seq) := by
    have hwindow : s.started = false := by rw [Station.started, hw]; rfl
    simp [Station.noticeView, hwindow, Station.claimWaits, Slot.waiting, hclaim]
  exact noticeView_claim ((congrArg NoticeView.claim hview).trans hidle)

/-- Settles O44: the steps of R133 in their order, and the first control period after them. -/
theorem windowEndSettlesTheStart : Obligations.WindowEndSettlesTheStart := by
  unfold Obligations.WindowEndSettlesTheStart
  intro s hw hb hh
  have hpowered : s.station.powered = true := by simp [Station.powered, hw]
  obtain ⟨hheat, hchill, hgas, hpres, hclaim⟩ := windowEnd_notices hw hb
  obtain ⟨hstands, hms⟩ := windowEnd_pairStands hw hb hh
  obtain ⟨hon, -, hpair, hmis, hflags⟩ := windowSettled_pair s.station
  have hflag (f : Flag) (h : (settlePair (adoptBudgets s.station)).flag f = true) :
      (windowEnd s.station).flag f = true := hstands.flags f (hflags f h)
  obtain ⟨hpairKept, -, hpartner⟩ := adoptBudgets_pair s.station
  refine ⟨_, act_powered hpowered _, rfl, ?_⟩
  simp only [State.on_station, hheat, hchill, hgas, hpres, hms, hstands.cycleOn, hon, hstands.exc, hstands.pair,
    hstands.mismatch, hpair, hmis, true_and]
  refine ⟨by rw [windowEnd_eq hw hb], hclaim, fun hlow => ?reduced, fun hrole hnormal => ?normal,
    fun hrole hlock => ?lockout, fun hrole hsingle => ?single, fun hrole => ?lead, fun hrole => ?follower⟩
  case reduced => exact hflag _ (settlePair_flags (adoptBudgets_reduced hlow))
  case normal => simp [windowSettled_exc hrole, hnormal]
  case lockout => simp [windowSettled_exc hrole, hlock]
  case single => simp [settlePair, hrole, hpairKept, hsingle]
  case lead =>
    obtain ⟨hpaired, hother, hnone⟩ := settlePair_lead (s := adoptBudgets s.station) (by simpa using hrole)
    have hid : s.station.partnerId = s.station.start.id + 1 := by simp [Station.partnerId, Station.follower, hrole]
    rw [hpartner, hid] at hpaired hother hnone
    refine ⟨hpaired, fun e he hr => ?_, fun hno => ?_⟩
    · obtain ⟨hp, hm, hf⟩ := hother e he hr
      exact ⟨hp, hm, hflag _ hf⟩
    · exact ⟨(hnone hno).1, hflag _ (hnone hno).2⟩
  case follower =>
    obtain ⟨hfollows, hother, hnone⟩ := settlePair_follower (s := adoptBudgets s.station) (by simpa using hrole)
    have hid : s.station.partnerId = s.station.start.id - 1 := by simp [Station.partnerId, Station.follower, hrole]
    rw [hpartner, hid] at hfollows hother hnone
    refine ⟨hfollows, fun e he hr => ?_, fun hno => ?_⟩
    · exact ⟨(hother e he hr).1, hflag _ (hother e he hr).2⟩
    · exact ⟨(hnone hno).1, hflag _ (hnone hno).2⟩

end Sys2Proof.Machine
end

section
/-! SUPPORT. What the pour unit's operations do to its own state: a start, the close of a pour whose tap is open, and
the ends of orders that never start (R142 to R155). -/
namespace Sys2Proof.Machine
open Sys2Proof

/-! ## The vent and the GAS posting of a decision -/

/-- What the pressure unit posts on GAS (R68, R85). -/
theorem postGas_posted (c : Claim) (s : Station) : (postGas c s).pools.items.gas.posted = c.norm := by
  simpa [postGas, Station.item, PerPool.get] using (postOne_claims .gas c s).1

/-- The claim on GAS is in its norm: 0 and IDLE, or 1 with a class (R68, R85). -/
@[simp] theorem Station.gasClaim_norm (s : Station) : s.gasClaim.norm = s.gasClaim := by
  unfold Station.gasClaim
  split <;> rfl

/-- A decision leaves the vent as it decides it. -/
@[simp] theorem setVent_vent (v : Bool) (s : Station) : (setVent v s).press.vent = v := by
  simp [setVent]

/-- The vent of a station in NORMAL stays shut through PRIMING (R69). -/
theorem Station.ventNext_priming {s : Station} (hstate : s.exc.state = .normal) (hstage : s.stage = some .priming)
    (v free : Bool) : s.ventNext v free = false := by
  have hmode : s.ventByMode v free = false := by
    unfold Station.ventByMode
    rw [hstage]
    cases s.modeInForce <;> rfl
  simp [Station.ventNext, Station.inLockout, Station.holdFor, hstate, hmode]

/-- In NORMAL the priming request of a pour is a demand of class POUR, where the vent is shut and no test runs (R68). -/
theorem Station.gasClaim_priming {s : Station} (hstate : s.exc.state = .normal) (hstage : s.stage = some .priming)
    (hprim : s.press.primReq = true) (hvent : s.press.vent = false) (htest : s.health.test = none)
    (hrole : s.start.role ≠ .follower) : s.gasClaim = ⟨1, .pour⟩ := by
  have hpour : s.pourInProgress = true := by
    obtain ⟨a, ha, -⟩ := Option.map_eq_some_iff.mp hstage
    simp [Station.pourInProgress, ha]
  simp [Station.gasClaim, hprim, hvent, htest, Station.follower, hrole, hpour, Station.gasBarred, Station.inLockout,
    Station.holdFor, hstate]

/-- A decision in PRIMING shuts the vent and posts the demand of the priming request (R68, R69). -/
theorem decideAsIs_priming {s : Station} (hstate : s.exc.state = .normal) (hstage : s.stage = some .priming)
    (hprim : s.press.primReq = true) (htest : s.health.test = none) (hrole : s.start.role ≠ .follower) :
    (decideAsIs s).press.vent = false ∧ (decideAsIs s).pools.items.gas.posted = ⟨1, .pour⟩ := by
  have hshut : decideAsIs s = setVent false { s with press.bandReq := s.bandNext s.press.bandReq } :=
    congrArg (setVent · _) (Station.ventNext_priming hstate hstage _ _)
  rw [hshut]
  refine ⟨setVent_vent _ _, ?_⟩
  rw [setVent, postGasNow, postGas_posted, Station.gasClaim_norm]
  exact Station.gasClaim_priming hstate hstage hprim rfl htest hrole

/-! ## A start -/

@[simp] theorem setTap_pour (v : Bool) (s : Station) : (setTap v s).pour = { s.pour with tap := v } := by
  simp [setTap]

/-- After an early end no leak test runs (R185). -/
@[simp] theorem endTestEarly_test (o : TestOutcome) (s : Station) : (endTestEarly o s).health.test = none := by
  unfold endTestEarly
  split
  · assumption
  · simp [writeDesc]

/-- An early end of a leak test leaves the priming request (R74, R185). -/
@[simp] theorem endTestEarly_primReq (o : TestOutcome) (s : Station) :
    (endTestEarly o s).press.primReq = s.press.primReq := by
  unfold endTestEarly
  split
  · rfl
  · simp [testEnded]

/-- P is at the floor or above it (R143). -/
def Station.flows (s : Station) : Bool := decide (s.start.setup.fp ≤ s.sense.p)

/-- The pour that a start makes (R143). -/
def Station.begun (s : Station) (tag : Nat) (kind : OrderKind) (requested : Nat) (level : Option Nat) (limit : Nat) :
    ActivePour :=
  { tag := tag
    kind := kind
    requested := requested
    closeLevel := level
    limitS := limit
    startCount := s.sense.pulses
    stage := if s.flows then .active else .priming
    everActive := s.flows }

section
variable (tag : Nat) (kind : OrderKind) (requested : Nat) (level : Option Nat) (limit : Nat) (s : Station)

/-- The station as a pour has joined it, its stage not yet told (R143). -/
def Station.joinedBy : Station :=
  { endTestEarly .interrupted s with pour.active := some (s.begun tag kind requested level limit) }

/-- A start: ACTIVE with the tap open at the floor, else PRIMING (R143). -/
theorem beginPour_eq : beginPour tag kind requested level limit s =
    if s.flows then toldActive (setTap true (s.joinedBy tag kind requested level limit))
    else toldPriming (s.joinedBy tag kind requested level limit) := by
  simp [beginPour, Station.joinedBy, Station.begun, Station.flows]

/-- A start changes the active pour and, at the floor, the tap (R143). -/
theorem beginPour_pour : (beginPour tag kind requested level limit s).pour =
    { s.pour with active := some (s.begun tag kind requested level limit), tap := s.flows || s.pour.tap } := by
  rw [beginPour_eq]
  cases h : s.flows <;> simp [Station.joinedBy]

/-- A start has interrupted the leak test (R143, R185). -/
theorem beginPour_test : (beginPour tag kind requested level limit s).health.test = none := by
  rw [beginPour_eq]
  cases h : s.flows <;> simp [Station.joinedBy]

/-- A start at the floor leaves the priming request (R69, R143). -/
theorem beginPour_active (h : s.flows = true) :
    (beginPour tag kind requested level limit s).press.primReq = s.press.primReq := by
  rw [beginPour_eq, if_pos h]
  simp only [toldActive, enterActive]
  split <;> simp [Station.joinedBy]

/-- A start below the floor requests gas for PRIMING, the vent shut (R68, R69, R143). -/
theorem beginPour_priming (h : s.flows = false) (hstate : s.exc.state = .normal) (hrole : s.start.role ≠ .follower) :
    (beginPour tag kind requested level limit s).press.primReq = true ∧
      (beginPour tag kind requested level limit s).press.vent = false ∧
      (beginPour tag kind requested level limit s).pools.items.gas.posted = ⟨1, .pour⟩ := by
  rw [beginPour_eq, if_neg (by simp [h]), toldPriming]
  refine ⟨by simp, decideAsIs_priming ?_ ?_ rfl ?_ ?_⟩
  · simpa [Station.joinedBy] using hstate
  · simp [Station.stage, Station.joinedBy, Station.begun, h]
  · simp [Station.joinedBy]
  · simpa [Station.joinedBy] using hrole

end

/-- The start conditions of R142, one by one. -/
theorem Station.mayStart_iff (s : Station) : s.mayStart = true ↔
    s.exc.state = .normal ∧ s.pour.serving = true ∧ s.pour.active = none ∧ s.pour.drain = none ∧
      s.sense.keg = true ∧ s.kegEmpty = false ∧ s.keg.tapLock = false ∧ s.req.restart = none := by
  simp [Station.mayStart, Station.holdsPour, Station.restartPending, and_assoc]

/-- The close level of an order, whichever of its two bounds is higher (R148). -/
theorem closeLevel_eq_max (v c : Nat) : closeLevel v c = max (v / 2) (v - c) := by
  unfold closeLevel
  split <;> omega

/-- The head that may not start, or that waits for the handle, stays QUEUED (R142). -/
theorem testHead_of_waits {s : Station}
    (h : s.mayStart = false ∨ ∀ o, s.pour.queue.head? = some o → o.start = .onHandle) : testHead s = s := by
  unfold testHead
  split
  · rfl
  · next o l hq =>
      refine if_neg ?_
      rcases h with h | h
      · simp [h]
      · simp [h o (by simp [hq])]

/-- An IMMEDIATE head that may start does (R142). -/
theorem testHead_starts {s : Station} {o : Order} {l : List Order} (hq : s.pour.queue = o :: l)
    (hs : s.mayStart = true) (ho : o.start = .immediate) : testHead s = startOrder o s := by
  simp [testHead, hq, hs, ho]

/-- The test of the head leaves the queue and the recent list (R142). -/
@[simp] theorem testHead_lists (s : Station) :
    (testHead s).pour.queue = s.pour.queue ∧ (testHead s).pour.recent = s.pour.recent := by
  unfold testHead
  split
  · simp
  · split
    · simp [startOrder, beginPour_pour]
    · simp

/-! ## Orders that end without a start -/

theorem placePourReport_pour (r : PourReport) (s : Station) :
    (placePourReport r s).pour = { s.pour with recent := (r :: s.pour.recent).take 4 } := rfl

/-- An order that ends unstarted leaves the queue, and its report is the newest (R152, R160). -/
theorem completeUnstarted_lists (out : PourOutcome) (o : Order) (s : Station) :
    (completeUnstarted out o s).pour.queue = s.pour.queue ∧
      (completeUnstarted out o s).pour.recent =
        ({ tag := o.tag, kind := o.kind, requested := o.volume, delivered := 0, duration := 0, outcome := out } ::
          s.pour.recent).take 4 := by
  simp [completeUnstarted, placePourReport_pour]

/-- Its write of the record counts a pour of 0 ml (R6). -/
theorem completeUnstarted_batch {b : Batch} {s : Station} (hb : s.keg.batch = some b) (out : PourOutcome) (o : Order) :
    (completeUnstarted out o s).keg.batch =
      some { b with total := min Config.top32 b.total, pours := min Config.top16 (b.pours + 1) } := by
  simp [completeUnstarted, writePour, writeBatch_batch, hb, satAdd]

/-- A write to the batch fields leaves the commit in flight (R10). -/
@[simp] theorem writeBatch_commit (f : Batch → Batch) (s : Station) : (writeBatch f s).keg.commit = s.keg.commit := by
  unfold writeBatch
  split
  · rfl
  · split <;> rfl

/-- With the tap locked no head starts (R142). -/
theorem testHead_of_locked {s : Station} (h : s.keg.tapLock = true) : testHead s = s :=
  testHead_of_waits (.inl (by simp [Station.mayStart, h]))

/-- What the end of a QUEUED order leaves where no order may start: all but the record's batch fields with their state,
the recent list and the link. -/
structure Station.EndsOrders (s t : Station) : Prop where
  queue : t.pour.queue = s.pour.queue
  active : t.pour.active = s.pour.active
  commit : t.keg.commit = s.keg.commit
  locked : t.keg.tapLock = s.keg.tapLock
  prog : t.prog = s.prog
  press : t.press = s.press
  pools : t.pools = s.pools
  req : t.req = s.req

theorem completeUnstarted_endsOrders {s : Station} (h : s.keg.tapLock = true) (out : PourOutcome) (o : Order) :
    s.EndsOrders (completeUnstarted out o s) := by
  rw [completeUnstarted, testHead_of_locked (by simpa using h)]
  constructor <;> simp [placePourReport_pour, writePour]

/-- With the tap locked, the ends of the QUEUED orders empty the queue but for the order being served (R155). -/
theorem endQueued_endsOrders {s : Station} (h : s.keg.tapLock = true) (out : PourOutcome) :
    Station.EndsOrders { s with pour.queue := if s.orderInProgress then s.pour.queue.take 1 else [] }
      (endQueued out s) := by
  have hfold (l : List Order) (r : Station) (hr : r.keg.tapLock = true) :
      r.EndsOrders (l.foldl (fun s o => completeUnstarted out o s) r) := by
    induction l generalizing r with
    | nil => exact ⟨rfl, rfl, rfl, rfl, rfl, rfl, rfl, rfl⟩
    | cons o l ih =>
        have hone := completeUnstarted_endsOrders hr out o
        have hrest := ih (completeUnstarted out o r) (hone.locked.trans hr)
        exact ⟨hrest.queue.trans hone.queue, hrest.active.trans hone.active, hrest.commit.trans hone.commit,
          hrest.locked.trans hone.locked, hrest.prog.trans hone.prog, hrest.press.trans hone.press,
          hrest.pools.trans hone.pools, hrest.req.trans hone.req⟩
  exact hfold _ _ h

/-! ## The close of a pour whose tap is open -/

/-- From `s` to `t` the pour `a` has closed with its tap open, its drain window begun as `d` (R151). -/
def Station.Drained (s t : Station) (a : ActivePour) (d : DrainPour) : Prop :=
  t.pour =
      { s.pour with
        active := none
        tap := false
        queue := if a.tag = 0 then s.pour.queue else s.pour.queue.drop 1
        drain := some d } ∧
    t.press.primReq = false ∧ t.press.holdReq = false ∧ t.keg = s.keg ∧ t.nv = s.nv ∧ t.exc = s.exc ∧
    t.start = s.start ∧ t.health = s.health ∧ t.req = s.req

/-- A pour closed with its tap open, but for a KEG_LOST, shuts the tap and begins its drain window (R151). -/
theorem closePour_drained {a : ActivePour} {out : PourOutcome} {s : Station} (ha : s.pour.active = some a)
    (htap : s.pour.tap = true) (hout : out ≠ .kegLost) : s.Drained (closePour out s) a (a.closed out) := by
  have hdrains : (s.pour.tap && out != .kegLost) = true := by simp [htap, hout]
  simp only [closePour, ha, hdrains, if_true]
  simp [Station.Drained, toldEnd, setTap]

end Sys2Proof.Machine
end

section
/-! PROOFS. The orders of the panel node: POUR and CANCEL_POUR (R141, R142, R154). -/
namespace Sys2Proof.Machine
open Sys2Proof

/-! ## POUR -/

/-- The station takes an order: no refusal of R141 holds. -/
structure Station.TakesOrder (s : Station) (o : Order) : Prop where
  own : s.admitsOwn
  tagged : o.tag ≠ 0
  inRange : o.tag ≤ 15
  free : ∀ x ∈ s.pour.queue, x.tag ≠ o.tag
  room : s.pour.queue.length < 4
  unlocked : s.keg.tapLock = false
  state : s.exc.state ≠ .lockout
  batch : s.keg.batch.isSome = true
  serve : o.kind = .glass → s.recPhase = .serve
  keg : s.sense.keg = true
  beer : s.kegEmpty = false

/-- An order that the station takes joins the queue, and the head is tested (R141, R142). -/
theorem pour_accepted {args : List Byte} {o : Order} {s : Station} (h : s.TakesOrder o) (hlen : args.length = 5)
    (ho : readOrder args = o) :
    takeRequest 7 (judgePour args) s = fillEntry 7 (accept (joinQueue o (reserveEntry 7 s))) := by
  obtain ⟨⟨htakes, hrestart⟩, hrole⟩ := h.own
  have hfree : s.tagHeld o.tag = false := by simpa [Station.tagHeld] using h.free
  have hempty : (reserveEntry 7 s).kegEmpty = false := h.beer
  have hheld : (reserveEntry 7 s).tagHeld o.tag = false := hfree
  have hserve : (o.kind == .glass && (reserveEntry 7 s).recPhase != .serve) = false := by
    by_cases hk : o.kind = .glass
    · simpa [hk, Station.recPhase] using h.serve hk
    · simp [hk]
  refine takeRequest_accepted htakes (by rw [judgePour, ho]) ?_
  simp [common, hlen, h.inRange, Station.restartPending, hrestart, Station.follower, hrole, Station.inLockout, h.state,
    h.batch, hserve, h.keg, hempty, h.unlocked, h.tagged, hheld, Config.queueEntries, Nat.not_le.mpr h.room]

/-- The order that the five bytes of a POUR carry (R140, R141, R201). -/
theorem readOrder_five (tag form v1 v2 limit : Byte) : readOrder [tag, form, v1, v2, limit] =
    { tag := tag.toNat
      kind := if form.getLsbD 7 then .sample else .glass
      volume :=
        if form.getLsbD 7 then clampNat 10 150 (v1.toNat * 256 + v2.toNat)
        else clampNat 50 1000 (v1.toNat * 256 + v2.toNat)
      limit := if form.getLsbD 5 then some (clampNat 5 120 limit.toNat) else none
      start := if form.getLsbD 6 then .onHandle else .immediate } := by
  have hbit (b : Nat) : atBit [tag, form, v1, v2, limit] 1 b = form.getLsbD b := rfl
  cases h : form.getLsbD 7 <;> simp only [readOrder, hbit, h] <;> rfl

/-- An order joins the queue at its tail, and its test leaves the reply list (R141, R142). -/
theorem joinQueue_lists (o : Order) (s : Station) :
    (joinQueue o s).pour.queue = s.pour.queue ++ [o] ∧ (joinQueue o s).link.replies = s.link.replies := by
  simp [joinQueue]

/-- Where the head may not start now, or the order is the head and waits for the handle, it joins and no more (R142). -/
theorem joinQueue_waits {o : Order} {s : Station}
    (h : s.mayStart = false ∨ (s.pour.queue = [] ∧ o.start = .onHandle)) :
    joinQueue o s = { s with pour.queue := s.pour.queue ++ [o] } := by
  refine testHead_of_waits (h.imp id fun ⟨hq, ho⟩ x hx => ?_)
  obtain rfl : o = x := by simpa [hq] using hx
  exact ho

/-- The pour that an order starts (R143, R148). -/
def Station.begunBy (s : Station) (o : Order) : ActivePour :=
  s.begun o.tag o.kind o.volume (some (closeLevel o.volume s.coast)) (o.limit.getD (defaultLimit o.volume))

theorem startOrder_pour (o : Order) (s : Station) :
    (startOrder o s).pour = { s.pour with active := some (s.begunBy o), tap := s.flows || s.pour.tap } :=
  beginPour_pour ..

/-- At the floor the order starts ACTIVE with the tap open (R143). -/
theorem startOrder_active {o : Order} {s : Station} (h : s.flows = true) :
    (s.begunBy o).stage = .active ∧ (startOrder o s).pour.tap = true ∧
      (startOrder o s).press.primReq = s.press.primReq := by
  refine ⟨?_, ?_, beginPour_active _ _ _ _ _ s h⟩
  · simp [Station.begunBy, Station.begun, h]
  · simp [startOrder_pour, h]

/-- Below the floor it starts in PRIMING, the tap as it was (R69, R143). -/
theorem startOrder_priming {o : Order} {s : Station} (h : s.flows = false) (hstate : s.exc.state = .normal)
    (hrole : s.start.role ≠ .follower) :
    (s.begunBy o).stage = .priming ∧ (startOrder o s).pour.tap = s.pour.tap ∧
      (startOrder o s).press.primReq = true ∧ (startOrder o s).press.vent = false ∧
      (startOrder o s).pools.items.gas.posted = ⟨1, .pour⟩ := by
  refine ⟨?_, ?_, beginPour_priming _ _ _ _ _ s h hstate hrole⟩
  · simp [Station.begunBy, Station.begun, h]
  · simp [startOrder_pour, h]

/-- The station with one order in its queue. -/
def Station.withOnly (s : Station) (o : Order) : Station := { s with pour.queue := [o] }

/-- An IMMEDIATE order that joins an empty queue starts where it may (R142). -/
theorem joinQueue_starts {o : Order} {s : Station} (hq : s.pour.queue = []) (hmay : s.mayStart = true)
    (ho : o.start = .immediate) : joinQueue o s = startOrder o (s.withOnly o) := by
  rw [joinQueue, hq]
  exact testHead_starts rfl hmay ho

/-- Settles O16: the order joins, and the test of the head starts it or leaves it. -/
theorem pourJoinsTheQueueAndStarts : Obligations.PourJoinsTheQueueAndStarts := by
  unfold Obligations.PourJoinsTheQueueAndStarts
  constructor
  · intro tag form v1 v2 limit s o hadm hstate hbatch hkeg hbeer hlock htag hrange hfree hroom hserve ho
    have hread : readOrder [tag, form, v1, v2, limit] = o := (readOrder_five ..).trans ho.symm
    have htakes : s.station.TakesOrder o := by
      subst ho
      exact ⟨hadm, by simpa [BitVec.toNat_eq] using htag, hrange, hfree, hroom, hlock, hstate, hbatch,
        by simpa using hserve, hkeg, hbeer⟩
    refine ⟨_, act_powered hadm.1.1.1 _, rfl, ?_⟩
    simp only [State.on_station, pour_accepted htakes rfl hread]
    refine ⟨?_, fillEntry_accept_replies (joinQueue_lists ..).2, fun hwaits => ?_⟩
    · simp [joinQueue_lists]
    · rw [joinQueue_waits (s := reserveEntry 7 s.station) hwaits]
      exact fillEntry_reserved 7 { s.station with pour.queue := s.station.pour.queue ++ [o] }
  · intro tag form v1 v2 limit s hadm hbatch htag hrange hqueue hform hserve hmay
    obtain ⟨o, ho⟩ : ∃ o, readOrder [tag, form, v1, v2, limit] = o := ⟨_, rfl⟩
    have hread := ho.symm.trans (readOrder_five ..)
    obtain ⟨hstate, -, -, hdrain, hkeg, hbeer, hlock, -⟩ := s.station.mayStart_iff.mp hmay
    have htakes : s.station.TakesOrder o := by
      subst hread
      exact ⟨hadm, by simpa [BitVec.toNat_eq] using htag, hrange, by simp [hqueue], by simp [hqueue], hlock,
        by simp [hstate], hbatch, by simpa using hserve, hkeg, hbeer⟩
    have hstart : o.start = .immediate := by rw [hread, hform]; rfl
    have hjoin : joinQueue o (reserveEntry 7 s.station) = startOrder o ((reserveEntry 7 s.station).withOnly o) :=
      joinQueue_starts (by simpa using hqueue) hmay hstart
    have hpour := startOrder_pour o ((reserveEntry 7 s.station).withOnly o)
    refine ⟨_, s.station.begunBy o, o, act_powered hadm.1.1.1 _, rfl, ?_⟩
    simp only [State.on_station, pour_accepted htakes rfl ho, hjoin, fillEntry_accept_frame, startOrder_frame]
    refine ⟨congrArg Pour.queue hpour, by rw [hread], congrArg Pour.active hpour, rfl, rfl, rfl, rfl,
      congrArg some (closeLevel_eq_max _ _), rfl, rfl, rfl, beginPour_test .., (congrArg Pour.drain hpour).trans hdrain,
      fun hfloor => ?active, fun hlow => ?priming, rfl, rfl, rfl, rfl, rfl⟩
    case active =>
      exact startOrder_active (s := (reserveEntry 7 s.station).withOnly o) (decide_eq_true hfloor)
    case priming =>
      exact startOrder_priming (s := (reserveEntry 7 s.station).withOnly o) (decide_eq_false (Nat.not_le.mpr hlow))
        hstate hadm.2

/-! ## CANCEL_POUR -/

/-- A QUEUED order that is cancelled (R154). -/
theorem cancelPour_queued {t : Nat} {o : Order} {s : Station} (ho : (s.pour.queue.find? fun x => x.tag == t) = some o)
    (hactive : ∀ a, s.pour.active = some a → a.tag ≠ t) :
    cancelPour t s =
      completeUnstarted .cancelled o { s with pour.queue := s.pour.queue.filter fun x => x.tag != t } := by
  have hserves : s.servesTag t = false := by
    unfold Station.servesTag
    split
    · rfl
    · next a ha => simpa using hactive a ha
  simp [cancelPour, hserves, cancelQueued, ho]

/-- A CANCEL_POUR of a tag in the queue, or of the manual pour by tag 0, is accepted (R145, R154). -/
theorem cancelPour_accepted {tag : Byte} {s : Station} (hadm : s.admitsOwn)
    (htag : s.tagHeld tag.toNat = true ∨ (tag = 0 ∧ s.manualInProgress = true)) :
    takeRequest 8 (judgeCancelPour [tag]) s =
      fillEntry 8 (accept (cancelPour tag.toNat (reserveEntry 8 s))) := by
  obtain ⟨⟨htakes, hrestart⟩, hrole⟩ := hadm
  have hat : at8 [tag] 0 = tag.toNat := rfl
  have hheld : (reserveEntry 8 s).tagHeld tag.toNat = s.tagHeld tag.toNat := rfl
  have hmanual : (reserveEntry 8 s).manualInProgress = s.manualInProgress := rfl
  refine takeRequest_accepted htakes (by rw [judgeCancelPour, hat]) ?_
  rcases htag with h | ⟨rfl, h⟩ <;>
    simp [common, Station.restartPending, hrestart, Station.follower, hrole, hheld, hmanual, h]

/-- Settles O17: the order leaves the queue and completes as one that has not started. -/
theorem cancelPourEndsAQueuedOrder : Obligations.CancelPourEndsAQueuedOrder := by
  unfold Obligations.CancelPourEndsAQueuedOrder
  intro tag o s hadm ho hactive
  have hheld : s.station.tagHeld tag.toNat = true := by
    obtain ⟨htag, hmem⟩ := And.intro (List.find?_some ho) (List.mem_of_find?_eq_some ho)
    exact List.any_eq_true.mpr ⟨o, hmem, htag⟩
  have hcancel := cancelPour_queued (s := reserveEntry 8 s.station) ho hactive
  refine ⟨_, act_powered hadm.1.1.1 _, rfl, ?_⟩
  simp only [State.on_station, cancelPour_accepted hadm (.inl hheld), hcancel, fillEntry_accept_frame,
    completeUnstarted_lists, completeUnstarted_frame, reserveEntry_frame]
  refine ⟨trivial, trivial, fun b hb => ?_, fillEntry_accept_replies (by simp), trivial, trivial, trivial, trivial⟩
  exact ⟨_, completeUnstarted_batch (by simpa using hb) .., rfl, rfl, rfl, rfl⟩

end Sys2Proof.Machine
end

section
/-! PROOFS. The handle, and the closes of a pour whose tap is open (R31, R143 to R145, R149 to R151, R154). -/
namespace Sys2Proof.Machine
open Sys2Proof

/-! ## Presses and releases -/

/-- The station with the handle switch at a level. -/
def Station.withHandle (s : Station) (closed : Bool) : Station := { s with sense.handle := closed }

/-- A press is taken by the pour unit with the switch closed (R31, R144). -/
theorem handlePress_open {s : Station} (h : s.sense.handle = false) :
    handlePress s = takePress (s.withHandle true) := by
  simp [handlePress, h, Station.withHandle]

/-- A press closes the order in progress (R144). -/
theorem takePress_order {s : Station} (hrole : s.start.role ≠ .follower) (h : s.orderInProgress = true) :
    takePress s = closePour .stoppedByHandle s := by
  simp [takePress, Station.follower, hrole, h]

/-- A press on a follower, or with the tap locked and no order in progress, does nothing (R144). -/
theorem takePress_none {s : Station}
    (h : s.start.role = .follower ∨ (s.keg.tapLock = true ∧ s.orderInProgress = false)) : takePress s = s := by
  rcases h with h | ⟨hl, ho⟩
  · simp [takePress, Station.follower, h]
  · simp [takePress, hl, ho]

/-- Where a pour may start nothing comes ahead of the queue at a press (R144). -/
theorem Station.mayStart_pressed {s : Station} (h : s.mayStart = true) :
    s.orderInProgress = false ∧ (s.pour.drain.isSome || s.keg.tapLock || s.restartPending) = false := by
  obtain ⟨-, -, hactive, hdrain, -, -, hlock, hrestart⟩ := s.mayStart_iff.mp h
  simp [Station.orderInProgress, hactive, hdrain, hlock, Station.restartPending, hrestart]

/-- A press starts an ON_HANDLE head that may start (R142, R144). -/
theorem takePress_head {o : Order} {l : List Order} {s : Station} (hrole : s.start.role ≠ .follower)
    (hmay : s.mayStart = true) (hq : s.pour.queue = o :: l) (ho : o.start = .onHandle) :
    takePress s = startOrder o s := by
  obtain ⟨hidle, hnone⟩ := Station.mayStart_pressed hmay
  simp only [takePress, Station.follower, beq_eq_false_iff_ne.mpr hrole, hidle, hnone, hq, ho, hmay]
  rfl

/-- A press on an empty queue in SERVE starts a manual pour where one may start (R145). -/
theorem takePress_manual {s : Station} (hrole : s.start.role ≠ .follower) (hmay : s.mayStart = true)
    (hq : s.pour.queue = []) (hserve : s.recPhase = .serve) : takePress s = startManual s := by
  obtain ⟨hidle, hnone⟩ := Station.mayStart_pressed hmay
  simp only [takePress, Station.follower, beq_eq_false_iff_ne.mpr hrole, hidle, hnone, hq, Station.manualMayStart, hmay,
    hserve]
  rfl

/-- A release closes the manual pour (R145). -/
theorem handleRelease_manual {a : ActivePour} {s : Station} (h : s.sense.handle = true)
    (ha : s.pour.active = some a) (htag : a.tag = 0) :
    handleRelease s = closePour .done (s.withHandle false) := by
  simp [handleRelease, h, ha, htag, Station.withHandle]

/-- A release with no pour in progress does nothing but open the switch (R145). -/
theorem handleRelease_idle {s : Station} (h : s.sense.handle = true) (ha : s.pour.active = none) :
    handleRelease s = s.withHandle false := by
  simp [handleRelease, h, ha, Station.withHandle]

/-- Settles O29: the press turns to the head of the queue, or to a manual pour. -/
theorem handleStartsAPour : Obligations.HandleStartsAPour := by
  unfold Obligations.HandleStartsAPour
  intro n s hp
  have hpress (hn : 16 ≤ n) (hopen : s.station.sense.handle = false) : exec (.handlePress n) s =
      .next ⟨takePress (s.station.withHandle true), s.pending⟩ := by
    refine (act_powered hp _).trans (next_congr ?_)
    rw [filtered_taken hn, handlePress_open hopen]
  refine ⟨fun hn => ⟨act_same (filtered_short hn _ _), act_same (filtered_short hn _ _)⟩,
    fun hn hopen hrole hmay => ⟨fun o l hq hstart => ?head, fun hq hserve => ?manual⟩,
    fun hn hopen hnone => ?none, fun hn hclosed hidle => ?release⟩
  case head =>
    have htake : takePress (s.station.withHandle true) = startOrder o (s.station.withHandle true) :=
      takePress_head hrole hmay hq hstart
    have hpour := startOrder_pour o (s.station.withHandle true)
    refine ⟨_, s.station.begunBy o, hpress hn hopen, rfl, ?_⟩
    simp only [htake, startOrder_frame]
    exact ⟨congrArg Pour.active hpour, rfl, rfl, (congrArg Pour.queue hpour).trans rfl, rfl, rfl⟩
  case manual =>
    have htake : takePress (s.station.withHandle true) = startManual (s.station.withHandle true) :=
      takePress_manual hrole hmay hq hserve
    refine ⟨_, s.station.begun 0 .glass 0 none (defaultLimit 1000), hpress hn hopen, rfl, ?_⟩
    simp only [htake, startManual_frame]
    exact ⟨congrArg Pour.active (beginPour_pour ..), rfl, rfl, rfl, rfl, rfl, rfl⟩
  case none =>
    rw [hpress hn hopen]
    exact next_congr (takePress_none hnone)
  case release =>
    refine (act_powered hp _).trans (next_congr ?_)
    exact (filtered_taken hn _ _).trans (handleRelease_idle hclosed hidle)

/-! ## Closes with the tap open -/

/-- An order in progress is an active pour with a tag (R143). -/
theorem orderInProgress_iff {s : Station} :
    s.orderInProgress = true ↔ ∃ a, s.pour.active = some a ∧ a.tag ≠ 0 := by
  cases h : s.pour.active <;> simp [Station.orderInProgress, h]

/-- An active pour of tag 0 is a manual one (R145). -/
theorem manualInProgress_of_tag {a : ActivePour} {s : Station} (ha : s.pour.active = some a) (htag : a.tag = 0) :
    s.manualInProgress = true := by
  simp [Station.manualInProgress, Station.pourInProgress, Station.orderInProgress, ha, htag]

/-- The time limit closes the pour with the whole limit counted (R149; log 1). -/
theorem limitOut_active {a : ActivePour} {s : Station} (ha : s.pour.active = some a) :
    limitOut s = closePour .timeout { s with pour.active := some { a with ms := a.limitS * 1000 } } := by
  simp [limitOut, ha]

/-- A foam time that runs closes the pour at its expiry (R150; log 1). -/
theorem foamOut_active {a : ActivePour} {s : Station} (ha : s.pour.active = some a) (hf : a.foamMs.isSome = true) :
    foamOut s = closePour .foam s := by
  simp [foamOut, ha, hf]

/-- A cancel of the pour in progress closes it (R154). -/
theorem cancelPour_active {a : ActivePour} {t : Nat} {s : Station} (ha : s.pour.active = some a) (ht : a.tag = t) :
    cancelPour t s = closePour .cancelled s := by
  simp [cancelPour, Station.servesTag, ha, ht]

/-- Settles O27: each of the five causes is a close with the tap open. -/
theorem openPourClosesIntoItsDrainWindow : Obligations.OpenPourClosesIntoItsDrainWindow := by
  unfold Obligations.OpenPourClosesIntoItsDrainWindow
  intro a s hp ha htap c out d hcause
  change ∃ t, exec c s = .next t ∧ t.pending = s.pending ∧ s.station.Drained t.station a
    { tag := a.tag, kind := a.kind, requested := a.requested, startCount := a.startCount, outcome := out
      duration := d, atClose := a.delivered, delivered := a.delivered, everActive := a.everActive }
  rcases hcause with ⟨n, hn, rfl, rfl, rfl, hopen, hrole, htag⟩ | ⟨n, hn, rfl, rfl, rfl, hclosed, htag⟩ |
    ⟨rfl, rfl, rfl⟩ | ⟨rfl, rfl, rfl, hfoam⟩ | ⟨tag, rfl, rfl, rfl, hadm, htag, hheld⟩ <;>
    refine ⟨_, act_powered hp _, rfl, ?_⟩ <;> rw [State.on_station]
  · have hclose : takePress (s.station.withHandle true) = closePour .stoppedByHandle (s.station.withHandle true) :=
      takePress_order hrole (orderInProgress_iff.mpr ⟨a, ha, htag⟩)
    rw [filtered_taken hn, handlePress_open hopen, hclose]
    exact closePour_drained (s := s.station.withHandle true) ha htap (by decide)
  · rw [filtered_taken hn, handleRelease_manual hclosed ha htag]
    exact closePour_drained (s := s.station.withHandle false) ha htap (by decide)
  · have hlimit : a.limitS * 10 = a.limitS * 1000 / 100 := by omega
    rw [limitOut_active ha, hlimit]
    exact closePour_drained
      (s := { s.station with pour.active := some { a with ms := a.limitS * 1000 } }) rfl htap (by decide)
  · rw [foamOut_active ha hfoam]
    exact closePour_drained ha htap (by decide)
  · have haccept : s.station.tagHeld tag.toNat = true ∨ (tag = 0 ∧ s.station.manualInProgress = true) := by
      by_cases h0 : tag = 0
      · exact .inr ⟨h0, manualInProgress_of_tag ha (by rw [htag, h0]; rfl)⟩
      · exact .inl (hheld h0)
    rw [cancelPour_accepted hadm haccept, cancelPour_active (s := reserveEntry 8 s.station) ha htag]
    exact closePour_drained (s := reserveEntry 8 s.station) ha htap (by decide)

end Sys2Proof.Machine
end

section
/-! PROOFS. The tap lock: LOCK_TAP, UNLOCK_TAP and FREEZE_TAP (R8, R9, R155, R156). -/
namespace Sys2Proof.Machine
open Sys2Proof

/-! ## LOCK_TAP and UNLOCK_TAP -/

/-- A write that changes L is a change of the record (R8, R155). -/
theorem writeTapLock_of_change {l : Bool} {s : Station} (h : s.keg.tapLock ≠ l) :
    writeTapLock l s = noteChange { s with keg.tapLock := l } := by
  simp [writeTapLock, h]

/-- The station as a change of L has been written and its commit triggered, the queued orders still waiting (R155). -/
def Station.relocked (s : Station) (l : Bool) : Station := commitTrigger (writeTapLock l s)

/-- The change of L is a matter of the record and its image (R8 to R10, R155). -/
@[simp] theorem Station.relocked_frame (l : Bool) (s : Station) :
    (s.relocked l).start = s.start ∧ (s.relocked l).sense = s.sense ∧ (s.relocked l).prog = s.prog ∧
    (s.relocked l).press = s.press ∧ (s.relocked l).pools = s.pools ∧ (s.relocked l).link = s.link ∧
    (s.relocked l).pour = s.pour ∧ (s.relocked l).exc = s.exc ∧ (s.relocked l).health = s.health ∧
    (s.relocked l).req = s.req ∧ (s.relocked l).subMs = s.subMs := by
  simp [Station.relocked]

/-- It leaves the batch (R155). -/
theorem Station.relocked_record {l : Bool} {s : Station} (h : s.keg.tapLock ≠ l) :
    (s.relocked l).keg.tapLock = l ∧ (s.relocked l).keg.batch = s.keg.batch := by
  simp [Station.relocked, writeTapLock_of_change h, noteChange]

/-- The commit that a change of L starts takes the record with L as it now stands (R9, R10, R155). -/
theorem Station.relocked_commit {l : Bool} {s : Station} (h : s.keg.tapLock ≠ l) (hrole : s.start.role ≠ .follower)
    (hloaded : s.keg.loaded = true) (hrestart : s.req.restart = none) (hc : s.keg.commit = none) :
    (s.relocked l).keg.commit = some { snap := ⟨s.keg.batch, l⟩ } := by
  have hpersist (r : Station) : (noteChange r).keg.persist ≠ .clean := by
    simp only [noteChange]
    split <;> simp_all
  have hstarts := commitTrigger_of_idle (s := noteChange { s with keg.tapLock := l })
    (by simpa [Station.follower] using hrole) hloaded hc (by simp [Station.restartPending, hrestart]) (hpersist _)
  rw [Station.relocked, writeTapLock_of_change h, hstarts]
  rfl

/-- The order in progress is read from the pour unit alone (R143). -/
@[simp] theorem Station.relocked_orderInProgress (l : Bool) (s : Station) :
    (s.relocked l).orderInProgress = s.orderInProgress := by
  simp [Station.orderInProgress]

@[simp] theorem reserveEntry_orderInProgress (code : Nat) (s : Station) :
    (reserveEntry code s).orderInProgress = s.orderInProgress := rfl

theorem lockTap_same {l : Bool} {s : Station} (h : s.keg.tapLock = l) : lockTap l s = s := by
  simp [lockTap, h]

theorem lockTap_locks {s : Station} (h : s.keg.tapLock = false) :
    lockTap true s = endQueued .locked (s.relocked true) := by
  simp [lockTap, h, Station.relocked]

theorem lockTap_unlocks {s : Station} (h : s.keg.tapLock = true) : lockTap false s = s.relocked false := by
  simp [lockTap, h, Station.relocked]

/-- LOCK_TAP and UNLOCK_TAP are taken while F is clear (R155). -/
theorem lockTap_accepted {s : Station} (hadm : s.admitsOwn) (hf : s.pour.freeze = false) :
    takeRequest 9 (judgeLockTap []) s = fillEntry 9 (accept (lockTap true (reserveEntry 9 s))) ∧
      takeRequest 10 (judgeUnlockTap []) s = fillEntry 10 (accept (lockTap false (reserveEntry 10 s))) := by
  obtain ⟨⟨htakes, hrestart⟩, hrole⟩ := hadm
  constructor <;> refine takeRequest_accepted htakes rfl ?_ <;>
    simp [common, Station.restartPending, hrestart, Station.follower, hrole, hf]

/-- Settles O18: the write of L with its commit, and on a lock the ends of the queued orders after it. -/
theorem lockAndUnlockWriteTheTapLock : Obligations.LockAndUnlockWriteTheTapLock := by
  unfold Obligations.LockAndUnlockWriteTheTapLock
  intro s hadm hf
  obtain ⟨hlock, hunlock⟩ := lockTap_accepted hadm hf
  have hp := hadm.1.1.1
  have hrecord (code : Nat) {l : Bool} (h : s.station.keg.tapLock ≠ l) :=
    Station.relocked_record (s := reserveEntry code s.station) h
  have hcommit (code : Nat) {l : Bool} (h : s.station.keg.tapLock ≠ l) (hc : s.station.keg.commit = none) :=
    Station.relocked_commit (s := reserveEntry code s.station) h hadm.2 hadm.1.1.2.1 hadm.1.2 hc
  refine ⟨fun h => ?lock, fun h => ?unlock, fun h => ?locked, fun h => ?unlocked⟩
  case lock =>
    have hne : s.station.keg.tapLock ≠ true := by simp [h]
    have hends := endQueued_endsOrders (hrecord 9 hne).1 .locked
    have hlocks := lockTap_locks (s := reserveEntry 9 s.station) h
    refine ⟨_, act_powered hp _, rfl, ?_⟩
    simp only [State.on_station, hlock, hlocks, fillEntry_accept_frame, endQueued_frame, Station.relocked_frame,
      reserveEntry_frame]
    refine ⟨hends.locked.trans (hrecord 9 hne).1, ?queue, ?active, fun hc => hends.commit.trans (hcommit 9 hne hc),
      fillEntry_accept_replies (by simp), ?prog, ?press, ?pools, trivial, trivial, trivial, ?req⟩
    case queue => simpa using hends.queue
    case active => simpa using hends.active
    case prog => simpa using hends.prog
    case press => simpa using hends.press
    case pools => simpa using hends.pools
    case req => simpa using hends.req
  case unlock =>
    have hne : s.station.keg.tapLock ≠ false := by simp [h]
    have hunlocks := lockTap_unlocks (s := reserveEntry 10 s.station) h
    refine ⟨_, act_powered hp _, rfl, ?_⟩
    simp only [State.on_station, hunlock, hunlocks, fillEntry_accept_frame]
    refine ⟨(hrecord 10 hne).1, hcommit 10 hne, (hrecord 10 hne).2, ?_⟩
    simp [fillEntry, accept, reserveEntry, Station.withReply]
  case locked =>
    have hsame := lockTap_same (s := reserveEntry 9 s.station) h
    refine (act_powered hp _).trans (next_congr ?_)
    rw [hlock, hsame, fillEntry_reserved]
  case unlocked =>
    have hsame := lockTap_same (s := reserveEntry 10 s.station) h
    refine (act_powered hp _).trans (next_congr ?_)
    rw [hunlock, hsame, fillEntry_reserved]

end Sys2Proof.Machine
end

section
/-! PROOFS. FREEZE_TAP: what holds the flag F and, under it, the tap lock L, and what a start makes of both (R156). -/
namespace Sys2Proof.Machine
open Sys2Proof

/-! ## Refusals -/

/-- A request whose verdict is a refusal leaves its reply alone behind it (R189). -/
theorem takeRequest_refused {s : Station} {code : Nat} {rc : ReplyCode} {j : Station → Verdict} (ht : s.takes)
    (hj : j (reserveEntry code s) = refuse rc (reserveEntry code s)) : takeRequest code j s = s.withReply code rc := by
  rw [takeRequest_taken ht, hj, fillEntry_refuse]

/-- A verdict with a refusal that holds leaves the station. -/
theorem firstOf_of_barred {f : Station → Station} {s : Station} {l : List (Bool × ReplyCode)}
    (h : ∃ x ∈ l, x.1 = true) : (firstOf s f l).after = s := by
  induction l with
  | nil => simp at h
  | cons x l ih =>
      obtain ⟨c, rc⟩ := x
      cases c with
      | true => rfl
      | false => exact ih (by simpa using h)

/-! ## The frozen lock -/

/-- F is set, and L has the value `l` (R156). -/
def Station.FrozenAt (s : Station) (l : Bool) : Prop := s.pour.freeze = true ∧ s.keg.tapLock = l

/-- The part's operation leaves a set F, and L under it. -/
def KeepsFrozen (f : Station → Station) : Prop := ∀ s l, s.FrozenAt l → (f s).FrozenAt l

theorem KeepsFrozen.of_eq {f : Station → Station}
    (h : ∀ s, (f s).pour.freeze = s.pour.freeze ∧ (f s).keg.tapLock = s.keg.tapLock) : KeepsFrozen f :=
  fun s _ ⟨hf, hl⟩ => ⟨(h s).1.trans hf, (h s).2.trans hl⟩

theorem KeepsFrozen.comp {f g : Station → Station} (hf : KeepsFrozen f) (hg : KeepsFrozen g) :
    KeepsFrozen fun s => f (g s) := fun s l h => hf _ l (hg s l h)

/-- A command leaves the part as its operation makes it, or, unpowered, as it was (R16). -/
theorem act_station {f : Station → Station} {s t : State} (he : act f s = .next t) :
    t.station = f s.station ∨ t.station = s.station := by
  injection he with he
  subst he
  split
  · exact .inl rfl
  · exact .inr rfl

theorem act_frozenAt {f : Station → Station} {s t : State} {l : Bool} (hf : KeepsFrozen f) (h : s.station.FrozenAt l)
    (he : act f s = .next t) : t.station.FrozenAt l := by
  rcases act_station he with e | e <;> rw [e]
  · exact hf _ l h
  · exact h

/-- A request's acceptance that leaves the lock makes a verdict that leaves it. -/
theorem firstOf_keepsFrozen {f : Station → Station → Station} {c : Station → List (Bool × ReplyCode)}
    (hf : ∀ r, KeepsFrozen (f r)) : KeepsFrozen fun s => (firstOf s (f s) (c s)).after := by
  intro s l h
  rcases firstOf_cases s (f s) (c s) with e | ⟨x, -, -, e⟩
  · simp only [e]
    exact hf s s l h
  · simp only [e]
    exact h

/-- With F set LOCK_TAP and UNLOCK_TAP are refused (R156). -/
theorem firstOf_frozen (f : Station → Station) (c : Station → List (Bool × ReplyCode)) :
    KeepsFrozen fun s => (firstOf s f (c s ++ [(s.pour.freeze, .frozen)])).after := by
  intro s l h
  have hbar : (firstOf s f (c s ++ [(s.pour.freeze, .frozen)])).after = s :=
    firstOf_of_barred ⟨(s.pour.freeze, .frozen), by simp, h.1⟩
  simp only [hbar]
  exact h

/-- The check that follows a change of the setpoint leaves F and L (R162). -/
theorem withSetpoint_lock (f : Station → Station) (s : Station) :
    (withSetpoint f s).pour.freeze = (f s).pour.freeze ∧ (withSetpoint f s).keg.tapLock = (f s).keg.tapLock := by
  unfold withSetpoint
  dsimp only
  split <;> simp

/-! ## Requests -/

theorem editStep_keepsFrozen (i : Nat) (st : Machine.Step) : KeepsFrozen (editStep i st) := .of_eq fun s => by
  unfold editStep
  split
  · exact ⟨rfl, rfl⟩
  · simp [withSetpoint_lock]

theorem pauseProgram_keepsFrozen : KeepsFrozen pauseProgram := .of_eq fun s => by
  unfold pauseProgram
  split <;> simp

theorem cancelPour_keepsFrozen (t : Nat) : KeepsFrozen (cancelPour t) := .of_eq fun s => by
  unfold cancelPour cancelQueued
  split
  · simp
  · split <;> simp

theorem acceptRestart_keepsFrozen : KeepsFrozen acceptRestart := .of_eq fun s => by
  unfold acceptRestart beginImageWork
  (repeat' split) <;> simp

/-- No verdict but that of FREEZE_TAP, which sets it, writes F, and under a set F none writes L (R156). -/
theorem judge_keepsFrozen (code : Nat) (args : List Byte) : KeepsFrozen fun s => (judge code args s).after := by
  unfold judge
  split
  case h_1 => exact firstOf_keepsFrozen fun _ => .of_eq fun s => by simp
  case h_2 => exact firstOf_keepsFrozen fun _ => editStep_keepsFrozen _ _
  case h_3 => exact firstOf_keepsFrozen fun _ => .of_eq fun s => by simp
  case h_4 => exact firstOf_keepsFrozen fun _ => .of_eq fun s => by simp
  case h_5 => exact firstOf_keepsFrozen fun _ => pauseProgram_keepsFrozen
  case h_6 => exact firstOf_keepsFrozen fun _ => .of_eq fun s => by simp
  case h_7 => exact firstOf_keepsFrozen fun _ => .of_eq fun s => by simp [joinQueue]
  case h_8 => exact firstOf_keepsFrozen fun _ => cancelPour_keepsFrozen _
  case h_9 => exact firstOf_frozen _ _
  case h_10 => exact firstOf_frozen _ _
  case h_11 => exact firstOf_keepsFrozen fun _ s l h => ⟨rfl, h.2⟩
  case h_12 => exact firstOf_keepsFrozen fun _ => .of_eq fun s => by simp
  case h_13 => exact firstOf_keepsFrozen fun _ => .of_eq fun s => by simp
  case h_14 => exact firstOf_keepsFrozen fun _ => .of_eq fun s => by simp
  case h_15 => exact firstOf_keepsFrozen fun _ => .of_eq fun s => by simp
  case h_16 => exact firstOf_keepsFrozen fun _ => .of_eq fun s => by simp
  case h_17 => exact firstOf_keepsFrozen fun _ => .of_eq fun s => by simp
  case h_18 =>
    refine .of_eq fun s => ?_
    unfold judgeQuery
    split
    · exact ⟨rfl, rfl⟩
    · split <;> exact ⟨rfl, rfl⟩
  case h_19 => exact firstOf_keepsFrozen fun _ => .of_eq fun s => by simp [clearEvents]
  case h_20 => exact firstOf_keepsFrozen fun _ => .of_eq fun s => by simp
  case h_21 => exact firstOf_keepsFrozen fun _ => acceptRestart_keepsFrozen
  case h_22 => exact .of_eq fun s => ⟨rfl, rfl⟩

theorem takeRequest_keepsFrozen (code : Nat) (args : List Byte) : KeepsFrozen (takeRequest code (judge code args)) := by
  intro s l h
  unfold takeRequest
  split
  · exact h
  · exact judge_keepsFrozen code args (reserveEntry code s) l h

/-! ## Parts and frames -/

theorem abandon_keepsFrozen : KeepsFrozen abandon := .of_eq fun s => by
  unfold abandon
  split <;> exact ⟨rfl, rfl⟩

theorem continuePart_keepsFrozen (code idx count : Nat) (args : List Byte) :
    KeepsFrozen (continuePart code idx count args) := by
  intro s l h
  unfold continuePart
  split
  · exact h
  · split
    · split
      · exact takeRequest_keepsFrozen _ _ _ l h
      · exact h
    · exact abandon_keepsFrozen s l h

theorem takePart_keepsFrozen (p : List Byte) : KeepsFrozen (takePart p) := by
  intro s l h
  unfold takePart
  dsimp only
  split
  · exact abandon_keepsFrozen s l h
  · split
    · exact takeRequest_keepsFrozen _ _ _ l (abandon_keepsFrozen s l h)
    · split
      · exact abandon_keepsFrozen s l h
      · exact continuePart_keepsFrozen _ _ _ _ s l h

theorem requestPart_keepsFrozen (p : List Byte) : KeepsFrozen (requestPart p) := by
  intro s l h
  unfold requestPart
  split
  · exact takePart_keepsFrozen p s l h
  · exact h

theorem heard_keepsFrozen {f : Station → Station} (hf : KeepsFrozen f) : KeepsFrozen (heard f) := by
  intro s l h
  unfold heard
  split
  · exact hf s l h
  · exact h

theorem filtered_keepsFrozen {f : Station → Station} (hf : KeepsFrozen f) (n : Nat) : KeepsFrozen (filtered n f) := by
  intro s l h
  unfold filtered
  split
  · exact hf s l h
  · exact h

theorem countFrame_keepsFrozen (bad : Bool) : KeepsFrozen (countFrame bad) := .of_eq fun s => by simp

theorem takeConflict_keepsFrozen : KeepsFrozen takeConflict := .of_eq fun s => by simp

theorem takeClaim_keepsFrozen (n : Nat) (p : List Byte) : KeepsFrozen (takeClaim n p) := .of_eq fun s => by simp

theorem takePresence_keepsFrozen (n : Nat) (p : List Byte) : KeepsFrozen (takePresence n p) := .of_eq fun s => by
  unfold takePresence
  split
  · exact ⟨rfl, rfl⟩
  · simp [hearPresence]

theorem takeExcursion_keepsFrozen (n : Nat) (p : List Byte) : KeepsFrozen (takeExcursion n p) := .of_eq fun s => by
  unfold takeExcursion
  split
  · exact ⟨rfl, rfl⟩
  · simp [hearExcursion]

theorem fromSender_keepsFrozen {f : Station → Station} (hf : KeepsFrozen f) (n : Nat) :
    KeepsFrozen (fromSender n f) := by
  intro s l h
  have hc := countFrame_keepsFrozen false s l h
  unfold fromSender
  dsimp only
  split
  · exact takeConflict_keepsFrozen _ l hc
  · exact hf _ l hc

theorem deliver_keepsFrozen (f : Frame) : KeepsFrozen (deliver f) := by
  intro s l h
  unfold deliver
  dsimp only
  split
  · exact takeConflict_keepsFrozen s l h
  · split
    · split
      · exact takeClaim_keepsFrozen _ _ s l h
      · split
        · exact takePresence_keepsFrozen _ _ s l h
        · split
          · exact takeExcursion_keepsFrozen _ _ s l h
          · exact h
    · split
      · exact requestPart_keepsFrozen _ s l h
      · exact h

theorem takeFrame_keepsFrozen (bits : List Bool) : KeepsFrozen (takeFrame bits) := by
  intro s l h
  unfold takeFrame
  split
  · exact countFrame_keepsFrozen true _ l h
  · exact deliver_keepsFrozen _ _ l (countFrame_keepsFrozen false s l h)

/-! ## Every command -/

/-- The commands that begin a start, load the record, or end the supply (R16, R127, R192). -/
def replacesLock : Instr → Bool
  | .powerOn _ | .pinReset _ | .restartBegin _ | .powerLoss | .referenceCheckDone _ _ => true
  | _ => false

theorem replacesLock_cases {c : Instr} (h : replacesLock c = true) :
    (∃ p, c = .powerOn p ∨ c = .pinReset p ∨ c = .restartBegin p) ∨ c = .powerLoss ∨
      ∃ x y, c = .referenceCheckDone x y := by
  cases c with
  | powerOn p => exact .inl ⟨p, .inl rfl⟩
  | pinReset p => exact .inl ⟨p, .inr (.inl rfl)⟩
  | restartBegin p => exact .inl ⟨p, .inr (.inr rfl)⟩
  | powerLoss => exact .inr (.inl rfl)
  | referenceCheckDone x y => exact .inr (.inr ⟨x, y, rfl⟩)
  | _ => cases h

/-- No other command clears F, or writes L under it (R156). -/
theorem exec_frozenAt {c : Instr} {s t : State} {l : Bool} (hc : replacesLock c = false) (h : s.station.FrozenAt l)
    (he : exec c s = .next t) : t.station.FrozenAt l := by
  cases c with
  | powerOn | pinReset | restartBegin | powerLoss | referenceCheckDone => cases hc
  | startBatch | editStep | advanceStep | runProgram | pauseProgram | endBatch | pour | cancelPour | lockTap
  | unlockTap | freezeTap | resume | releaseLockout | leakTest | abortTest | commit | writeSetup | query | clearEvents
  | setReportMask | restart => exact act_frozenAt (takeRequest_keepsFrozen _ _) h he
  | frameReceived bits => exact act_frozenAt (heard_keepsFrozen (takeFrame_keepsFrozen bits)) h he
  | requestPartReceived p =>
    exact act_frozenAt (heard_keepsFrozen ((requestPart_keepsFrozen p).comp (countFrame_keepsFrozen false))) h he
  | claimNoticeReceived n p =>
    exact act_frozenAt (heard_keepsFrozen (fromSender_keepsFrozen (takeClaim_keepsFrozen _ p) _)) h he
  | presenceNoticeReceived n p =>
    exact act_frozenAt (heard_keepsFrozen (fromSender_keepsFrozen (takePresence_keepsFrozen _ p) _)) h he
  | excursionNoticeReceived n p =>
    exact act_frozenAt (heard_keepsFrozen (fromSender_keepsFrozen (takeExcursion_keepsFrozen _ p) _)) h he
  | handlePress n | handleRelease n | kegInsertion n | kegRemoval n | overdrawAssert n | overdrawDeassert n
  | chillRdyAssert n | chillRdyDeassert n =>
    exact act_frozenAt (filtered_keepsFrozen (.of_eq fun s => by simp) n) h he
  | commitComplete | setupWriteComplete | claimOffsetPlacement | claimSpacingExpiry | probePlacement =>
    refine act_frozenAt (.of_eq fun s => ?_) h he
    (repeat' split) <;> simp
  | _ => exact act_frozenAt (.of_eq fun s => by simp) h he

/-! ## Starts -/

/-- Step 3 leaves nonvolatile memory, the role and the pour unit (R129). -/
theorem applySetup_frame (s : Station) :
    (applySetup s).nv = s.nv ∧ (applySetup s).start.role = s.start.role ∧ (applySetup s).pour = s.pour := by
  unfold applySetup
  split <;> simp [useSetup]

/-- Step 4 leaves the pour unit (R13). -/
theorem loadRecord_pour (s : Station) : (loadRecord s).pour = s.pour := by
  unfold loadRecord
  dsimp only
  split
  · rfl
  · split
    · simp
    · rfl

/-- Step 4 on a station that reads a valid image takes L from it (R13, R15). -/
theorem loadRecord_tapLock {s : Station} (hrole : s.start.role ≠ .follower)
    (himage : imageValid 146 s.nv.image = true) : (loadRecord s).keg.tapLock = (Rec.ofImage s.nv.image).tapLock := by
  simp [loadRecord, Station.follower, hrole, loadImage, himage]

/-- The load of the record leaves F (R13, R127). -/
theorem referenceDone_freeze (x y : Option (BitVec 5)) (s : Station) :
    (referenceDone x y s).pour.freeze = s.pour.freeze := by
  unfold referenceDone
  split
  · simp [openWindow, withSetpoint_lock, loadRecord_pour, applySetup_frame, applyReference]
  · rfl

/-- Past step 2 the end of a reference check changes nothing (R127). -/
theorem referenceDone_of_checked {s : Station} (h : s.start.phase ≠ .checking) (x y : Option (BitVec 5)) :
    referenceDone x y s = s := if_neg h

/-- After the start L is that of a valid image (R13, R15). -/
theorem referenceDone_tapLock {s : Station} (hphase : s.start.phase = .checking) (hrole : s.start.role ≠ .follower)
    (himage : imageValid 146 s.nv.image = true) (x y : Option (BitVec 5)) :
    (referenceDone x y s).keg.tapLock = (Rec.ofImage s.nv.image).tapLock := by
  obtain ⟨hnv, hsame, -⟩ := applySetup_frame (applyReference x y s)
  have himage' : imageValid 146 (applySetup (applyReference x y s)).nv.image = true := by rw [hnv]; exact himage
  have hload := loadRecord_tapLock (by rw [hsame]; exact hrole) himage'
  rw [hnv, show (applyReference x y s).nv = s.nv from rfl] at hload
  simpa [referenceDone, hphase, openWindow, withSetpoint_lock] using hload

/-- The flag of the strap table leaves the pour unit (R128). -/
theorem strapFlag_pour (p : Pins) (s : Station) : (strapFlag p s).pour = s.pour := by
  unfold strapFlag
  split <;> simp

/-- Settles O19: every command that neither starts the part nor ends its supply keeps a frozen lock, and a start makes F
and L anew. -/
theorem freezeHoldsTheTapLock : Obligations.FreezeHoldsTheTapLock := by
  unfold Obligations.FreezeHoldsTheTapLock
  refine ⟨fun s hadm => ?sets, fun s hadm hf => ?frozen, fun c s t hf he => ?keepsF, fun c s t hf he => ?keepsL,
    fun a s hadm ha => ?length, fun s hadm hrole => ?role, fun p s => ⟨?powerOn, fun hp => ?pinReset⟩,
    fun p s hp hdone hsetup htx => ?restart, fun x y s hphase hrole himage => ?load⟩
  case sets =>
    obtain ⟨⟨htakes, hrestart⟩, hrole⟩ := hadm
    refine (act_powered htakes.1 _).trans (next_congr ?_)
    refine (takeRequest_accepted htakes rfl ?_).trans
      (fillEntry_reserved 11 { s.station with pour.freeze := true })
    simp [common, Station.restartPending, hrestart, Station.follower, hrole]
  case frozen =>
    obtain ⟨⟨htakes, hrestart⟩, hrole⟩ := hadm
    have hbarred (code : Nat) (f : Station → Station) :
        firstOf (reserveEntry code s.station) f
          (common code true (reserveEntry code s.station) ++ [((reserveEntry code s.station).pour.freeze, .frozen)]) =
        refuse .frozen (reserveEntry code s.station) := by
      simp [common, firstOf, Station.restartPending, hrestart, Station.follower, hrole, hf]
    exact ⟨(act_powered htakes.1 _).trans (next_congr (takeRequest_refused htakes (hbarred 9 _))),
      (act_powered htakes.1 _).trans (next_congr (takeRequest_refused htakes (hbarred 10 _)))⟩
  case keepsF =>
    cases hc : replacesLock c with
    | false => exact .inl (exec_frozenAt hc ⟨hf, rfl⟩ he).1
    | true =>
      rcases replacesLock_cases hc with hstart | rfl | ⟨x, y, rfl⟩
      · exact .inr (.inl hstart)
      · exact .inr (.inr rfl)
      · rcases act_station he with e | e
        · exact .inl (by rw [e, referenceDone_freeze, hf])
        · exact .inl (by rw [e, hf])
  case keepsL =>
    cases hc : replacesLock c with
    | false => exact .inl (exec_frozenAt hc ⟨hf, rfl⟩ he).2
    | true =>
      rcases replacesLock_cases hc with hstart | rfl | ⟨x, y, rfl⟩
      · exact .inr (.inl hstart)
      · exact .inr (.inr (.inl rfl))
      · by_cases hphase : s.station.start.phase = .checking
        · exact .inr (.inr (.inr ⟨hphase, x, y, rfl⟩))
        · rcases act_station he with e | e
          · exact .inl (by rw [e, referenceDone_of_checked hphase])
          · exact .inl (by rw [e])
  case length =>
    obtain ⟨htakes, hrestart⟩ := hadm
    refine (act_powered htakes.1 _).trans (next_congr (takeRequest_refused htakes ?_))
    simp [judgeFreezeTap, common, firstOf, ha]
  case role =>
    obtain ⟨htakes, hrestart⟩ := hadm
    refine (act_powered htakes.1 _).trans (next_congr (takeRequest_refused htakes ?_))
    simp [judgeFreezeTap, common, firstOf, Station.restartPending, hrestart, Station.follower, hrole, followerTakes]
  case powerOn => exact ⟨_, rfl, by simp [coldStart, strapFlag_pour, freshStation]⟩
  case pinReset => exact ⟨_, act_powered hp _, by simp [coldStart, strapFlag_pour, freshStation]⟩
  case restart =>
    refine ⟨_, act_powered hp _, ?_⟩
    simp [restartBegin, Station.restartReady, hdone, hsetup, htx, strapFlag_pour, kept, freshStation]
  case load =>
    have hp : s.station.powered = true := by simp [Station.powered, hphase]
    exact ⟨_, act_powered hp _, referenceDone_tapLock hphase hrole himage x y⟩

end Sys2Proof.Machine
end
